-- ==== Sys2Proof/Word.lean ====
section
/-! DEFINITION. The word types of the block (00_scope.md R10, 30_encoding.md R75 and R76). -/

namespace Sys2Proof

/-- A register value: an unsigned 32-bit integer, u32 (R10). -/
abbrev Word := BitVec 32

/-- One byte, what the UART transmits (R14). -/
abbrev Byte := BitVec 8

/-- A byte offset inside a 0x1000-byte register window, 0x000 to 0xFFF (R18, R75). -/
abbrev Offset := BitVec 12

/-- The 16-bit selector key of a transaction (R76). -/
abbrev Key := BitVec 16

end Sys2Proof
end

