-- ==== Sys2Proof/Config.lean ====
section
/-! DEFINITION. The parameter record of 00_scope.md R8: what the source fixes, what the spec decides
(with its default), and what it leaves OPEN. The spec leaves no result undefined, so the model needs no
free value. -/

namespace Sys2Proof

/-- The three devices of the block (R1). The check port belongs to the MPU (R77). -/
inductive Device where
  | uart
  | can
  | mpu
  deriving DecidableEq, Repr

/-- `P_UART_STATUS_WRITE_MODE` (R103, decision D10). -/
inductive UartStatusWriteMode where
  | clear
  | verbatim
  deriving DecidableEq, Repr

/-- `P_CAN_STATUS_READ_MODE` (R113, decision D11). -/
inductive CanStatusReadMode where
  | forceTxReady
  | stored
  deriving DecidableEq, Repr

/-- `P_CAN_IRQ_WRITE` (R124, decision D15). -/
inductive CanIrqWrite where
  | ignore
  | store
  deriving DecidableEq, Repr

namespace Config

/-- The spec's label for the hardware (R3). -/
def label : String := "CaosProjectCybersec-periph"

/-- `WINDOW_SIZE` (R8): bytes per device window. -/
def windowSize : Nat := 0x1000

/-- `REGION_SIZE` (R8, R129): bytes per protection region. -/
def regionSize : Nat := 0x1000

/-- `BASE_ALIGN_MASK` (R8, R148). -/
def baseAlignMask : Word := 0xFFFFFFF0#32

/-- `ATTR_MASK` (R8, R149). -/
def attrMask : Word := 0x0000000F#32

/-- `EDR_FAULT_MARKER` (R8, R143). -/
def edrFaultMarker : Word := 0x0000DEAD#32

end Config

/-- The OPEN rows of R8: the platform's own choices. No rule of the block reads one of them; only the
well-formedness of the record does (R54). -/
structure PlatformParams where
  baseUart      : Word
  baseCan       : Word
  baseMpu       : Word
  /-- `P_PLATFORM_GATES` (R72): whether the platform consults the check port before its own dispatch. -/
  platformGates : Bool
  deriving DecidableEq, Repr

/-- The parameter record of R8, less the rows the source fixes. -/
structure Params where
  uartOffBaud   : Offset
  uartOffCtrl   : Offset
  uartOffStatus : Offset
  uartOffData   : Offset
  canOffMcr     : Offset
  canOffCtrl    : Offset
  canOffStatus  : Offset
  canOffTxbuf   : Offset
  canOffRxbuf   : Offset
  canOffIrq     : Offset
  mpuOffCesr     : Offset
  mpuOffEar      : Offset
  mpuOffEdr      : Offset
  mpuOffRgn0Base : Offset
  mpuOffRgn0Attr : Offset
  mpuOffRgn1Base : Offset
  mpuOffRgn1Attr : Offset
  permRead  : Word
  permWrite : Word
  permExec  : Word
  admittedSizes            : List Nat
  uartStatusWriteMode      : UartStatusWriteMode
  canStatusReadMode        : CanStatusReadMode
  uartStatusWriteLowersIrq : Bool
  canStatusWriteLowersIrq  : Bool
  canIrqWrite              : CanIrqWrite
  mpuCheckRecords          : Bool
  regionEndWraps           : Bool
  platform                 : PlatformParams
  deriving DecidableEq, Repr

/-- The mapped offsets of one device (R83 to R85), in the order of its table. -/
def Params.offsets (p : Params) : Device → List Offset
  | .uart => [p.uartOffBaud, p.uartOffCtrl, p.uartOffStatus, p.uartOffData]
  | .can  => [p.canOffMcr, p.canOffCtrl, p.canOffStatus, p.canOffTxbuf, p.canOffRxbuf, p.canOffIrq]
  | .mpu  => [p.mpuOffCesr, p.mpuOffEar, p.mpuOffEdr, p.mpuOffRgn0Base, p.mpuOffRgn0Attr,
              p.mpuOffRgn1Base, p.mpuOffRgn1Attr]

/-- The record with every decided default of R8, the OPEN rows left as an argument. -/
def Params.defaults (o : PlatformParams) : Params where
  uartOffBaud   := 0x000#12
  uartOffCtrl   := 0x004#12
  uartOffStatus := 0x008#12
  uartOffData   := 0x00C#12
  canOffMcr     := 0x000#12
  canOffCtrl    := 0x004#12
  canOffStatus  := 0x008#12
  canOffTxbuf   := 0x00C#12
  canOffRxbuf   := 0x010#12
  canOffIrq     := 0x014#12
  mpuOffCesr     := 0x000#12
  mpuOffEar      := 0x004#12
  mpuOffEdr      := 0x008#12
  mpuOffRgn0Base := 0x00C#12
  mpuOffRgn0Attr := 0x010#12
  mpuOffRgn1Base := 0x014#12
  mpuOffRgn1Attr := 0x018#12
  permRead  := 0x1#32
  permWrite := 0x2#32
  permExec  := 0x4#32
  admittedSizes            := [4]
  uartStatusWriteMode      := .clear
  canStatusReadMode        := .forceTxReady
  uartStatusWriteLowersIrq := true
  canStatusWriteLowersIrq  := false
  canIrqWrite              := .ignore
  mpuCheckRecords          := false
  regionEndWraps           := false
  platform                 := o

/-- DESIGN CHOICE (log 2, unsafe): the OPEN parameters have no default in the spec; these stand in
`State.reset` only, and no statement rests on them. -/
def PlatformParams.placeholder : PlatformParams where
  baseUart      := 0x00000000#32
  baseCan       := 0x00001000#32
  baseMpu       := 0x00002000#32
  platformGates := false

/-- The record that `State.reset` carries: the decided defaults over the placeholder. -/
def Params.atReset : Params := Params.defaults PlatformParams.placeholder

end Sys2Proof
end

