-- ==== Sys2Proof/Syntax.lean ====
section
/-! DEFINITION. The transactions of the block: one constructor per row of spec/opcode_table.json (R75, R83 to R85). -/

namespace Sys2Proof

/-- A decoded transaction: what a bus read, a bus write or a check-port call selects (R75, R82).
`v` is the u32 write value (R80), `off` the window offset of a fallback row (R88), `a` and `req` the check
operands (R81). -/
inductive Instr where
  /-- `RD UART.BAUD` (R96). -/
  | rdUartBaud
  /-- `RD UART.CTRL` (R97). -/
  | rdUartCtrl
  /-- `RD UART.STATUS` (R98). -/
  | rdUartStatus
  /-- `RD UART.DATA` (R99). -/
  | rdUartData
  /-- `WR UART.BAUD` (R101). -/
  | wrUartBaud (v : Word)
  /-- `WR UART.CTRL` (R102). -/
  | wrUartCtrl (v : Word)
  /-- `WR UART.STATUS` (R103). -/
  | wrUartStatus (v : Word)
  /-- `WR UART.DATA` (R104). -/
  | wrUartData (v : Word)
  /-- `RD UART+off (invalid offset)` (R100). -/
  | rdUartInvalid (off : Offset)
  /-- `WR UART+off (invalid offset)` (R105). -/
  | wrUartInvalid (off : Offset) (v : Word)
  /-- `RD CAN.MCR` (R111). -/
  | rdCanMcr
  /-- `RD CAN.CTRL` (R112). -/
  | rdCanCtrl
  /-- `RD CAN.STATUS` (R113). -/
  | rdCanStatus
  /-- `RD CAN.TXBUF` (R114). -/
  | rdCanTxbuf
  /-- `RD CAN.RXBUF` (R115). -/
  | rdCanRxbuf
  /-- `RD CAN.IRQ` (R116). -/
  | rdCanIrq
  /-- `WR CAN.MCR` (R118). -/
  | wrCanMcr (v : Word)
  /-- `WR CAN.CTRL` (R119). -/
  | wrCanCtrl (v : Word)
  /-- `WR CAN.STATUS` (R120). -/
  | wrCanStatus (v : Word)
  /-- `WR CAN.TXBUF` (R121). -/
  | wrCanTxbuf (v : Word)
  /-- `WR CAN.RXBUF` (R123). -/
  | wrCanRxbuf (v : Word)
  /-- `WR CAN.IRQ` (R124). -/
  | wrCanIrq (v : Word)
  /-- `RD CAN+off (invalid offset)` (R117). -/
  | rdCanInvalid (off : Offset)
  /-- `WR CAN+off (invalid offset)` (R125). -/
  | wrCanInvalid (off : Offset) (v : Word)
  /-- `RD MPU.CESR` (R130). -/
  | rdMpuCesr
  /-- `RD MPU.EAR` (R131). -/
  | rdMpuEar
  /-- `RD MPU.EDR` (R132). -/
  | rdMpuEdr
  /-- `RD MPU.RGN0_BASE` (R133). -/
  | rdMpuRgn0Base
  /-- `RD MPU.RGN0_ATTR` (R134). -/
  | rdMpuRgn0Attr
  /-- `RD MPU.RGN1_BASE` (R135). -/
  | rdMpuRgn1Base
  /-- `RD MPU.RGN1_ATTR` (R136). -/
  | rdMpuRgn1Attr
  /-- `WR MPU.CESR` (R145). -/
  | wrMpuCesr (v : Word)
  /-- `WR MPU.EAR` (R146). -/
  | wrMpuEar (v : Word)
  /-- `WR MPU.EDR` (R147). -/
  | wrMpuEdr (v : Word)
  /-- `WR MPU.RGN0_BASE` (R148). -/
  | wrMpuRgn0Base (v : Word)
  /-- `WR MPU.RGN0_ATTR` (R149). -/
  | wrMpuRgn0Attr (v : Word)
  /-- `WR MPU.RGN1_BASE` (R150). -/
  | wrMpuRgn1Base (v : Word)
  /-- `WR MPU.RGN1_ATTR` (R151). -/
  | wrMpuRgn1Attr (v : Word)
  /-- `RD MPU+off (non-configuration, gated)` (R142). -/
  | rdMpuGated (off : Offset)
  /-- `WR MPU+off (non-configuration, unauthorized)` (R152). -/
  | wrMpuUnauthorized (off : Offset) (v : Word)
  /-- `CHK a, req` (R153). -/
  | chk (a : Word) (req : Word)
  deriving DecidableEq, Repr

end Sys2Proof
end

