-- ==== Sys2Proof/WellFormed.lean ====
section
/-! DEFINITION. What a well-formed parameter record is (R9, R54, R59), and what a well-formed instruction is under one. -/

namespace Sys2Proof

/-- R9 (a): the offsets of one device are pairwise distinct. -/
abbrev Params.OffsetsDistinct (p : Params) : Prop :=
  (p.offsets .uart).Nodup ∧ (p.offsets .can).Nodup ∧ (p.offsets .mpu).Nodup

/-- R9 (b): every offset satisfies `off + 4 <= WINDOW_SIZE`. -/
abbrev Params.OffsetsInWindow (p : Params) : Prop :=
  ((p.offsets .uart ++ p.offsets .can ++ p.offsets .mpu).all
    fun off => decide (off.toNat + 4 ≤ Config.windowSize)) = true

/-- R9 (c): each permission value is nonzero and has no bits outside `ATTR_MASK`. -/
abbrev Params.PermsValid (p : Params) : Prop :=
  ([p.permRead, p.permWrite, p.permExec].all
    fun m => m != 0#32 && m &&& 0xFFFFFFF0#32 == 0#32) = true

/-- Two windows of `WINDOW_SIZE` bytes at bases `b` and `c` share no address (R54). -/
abbrev windowsApart (b c : Word) : Prop :=
  b.toNat + Config.windowSize ≤ c.toNat ∨ c.toNat + Config.windowSize ≤ b.toNat

/-- R54: windows that overlap are the platform's error, and the record is refused. -/
abbrev Params.WindowsApart (p : Params) : Prop :=
  windowsApart p.platform.baseUart p.platform.baseCan ∧
  windowsApart p.platform.baseUart p.platform.baseMpu ∧
  windowsApart p.platform.baseCan p.platform.baseMpu

/-- DEDUCED (log 3, safe), from R59 and D7: a record that admits another size must first fix the byte mapping,
which this spec does not do, so the only admitted size is 4. -/
abbrev Params.SizesFixed (p : Params) : Prop :=
  p.admittedSizes = [4]

/-- A record the model gives a meaning (R9, R54); the step refuses any other. -/
abbrev Params.WF (p : Params) : Prop :=
  p.OffsetsDistinct ∧ p.OffsetsInWindow ∧ p.PermsValid ∧ p.WindowsApart ∧ p.SizesFixed

/-- An offset of a fallback row: not mapped, and a 4-byte access there fits the window (R57, R82). -/
def unmappedOffset (p : Params) (d : Device) (off : Offset) : Bool :=
  decide (off ∉ p.offsets d) && decide (off.toNat + 4 ≤ Config.windowSize)

/-- An instruction the decoder can produce under `p`: a fallback row carries an unmapped offset (R82). -/
def Instr.wellFormed (p : Params) : Instr → Bool
  | .rdUartBaud => true
  | .rdUartCtrl => true
  | .rdUartStatus => true
  | .rdUartData => true
  | .wrUartBaud _ => true
  | .wrUartCtrl _ => true
  | .wrUartStatus _ => true
  | .wrUartData _ => true
  | .rdUartInvalid off => unmappedOffset p .uart off
  | .wrUartInvalid off _ => unmappedOffset p .uart off
  | .rdCanMcr => true
  | .rdCanCtrl => true
  | .rdCanStatus => true
  | .rdCanTxbuf => true
  | .rdCanRxbuf => true
  | .rdCanIrq => true
  | .wrCanMcr _ => true
  | .wrCanCtrl _ => true
  | .wrCanStatus _ => true
  | .wrCanTxbuf _ => true
  | .wrCanRxbuf _ => true
  | .wrCanIrq _ => true
  | .rdCanInvalid off => unmappedOffset p .can off
  | .wrCanInvalid off _ => unmappedOffset p .can off
  | .rdMpuCesr => true
  | .rdMpuEar => true
  | .rdMpuEdr => true
  | .rdMpuRgn0Base => true
  | .rdMpuRgn0Attr => true
  | .rdMpuRgn1Base => true
  | .rdMpuRgn1Attr => true
  | .wrMpuCesr _ => true
  | .wrMpuEar _ => true
  | .wrMpuEdr _ => true
  | .wrMpuRgn0Base _ => true
  | .wrMpuRgn0Attr _ => true
  | .wrMpuRgn1Base _ => true
  | .wrMpuRgn1Attr _ => true
  | .rdMpuGated off => unmappedOffset p .mpu off
  | .wrMpuUnauthorized off _ => unmappedOffset p .mpu off
  | .chk _ _ => true

end Sys2Proof
end

