-- ==== Sys2Proof/Decode.lean ====
section
/-! DEFINITION. The transaction request as the platform presents it, the decoder (R76 to R85, R88, R89, R95) and,
after it, the encoder. -/

namespace Sys2Proof

/-- One transaction as presented: the selector key (R76) and what travels beside it, the size n of a bus access
and the operands. A bus write's value is `opA`; a check's address is `opA` and its required permission `opB`.
A format that has no such operand ignores the slot (R75). -/
structure Request where
  key  : Key
  size : Nat
  opA  : Word
  opB  : Word
  deriving DecidableEq, Repr

/-- Why a request is not admitted (R57, R89). -/
inductive Reject where
  /-- `key[12]` = 1 (R89). -/
  | reservedKeyBit
  /-- Unit 11 with `key[13]` = 1: the check port has no write (R89). -/
  | checkPortWrite
  /-- Unit 11 with a nonzero offset (R89). -/
  | checkPortOffset
  /-- The size is not in `P_ADMITTED_SIZES` (R57 (a), R79). -/
  | sizeNotAdmitted
  /-- `off + n > WINDOW_SIZE` (R57 (b)). -/
  | outsideWindow
  deriving DecidableEq, Repr

/-- `key[15:14]`, the unit (R77). -/
def keyUnit (k : Key) : BitVec 2 := k.extractLsb' 14 2

/-- `key[13]`, the direction: 1 is a write (R76). -/
def keyWrites (k : Key) : Bool := k.getLsbD 13

/-- `key[12]`, reserved, must be 0 (R76). -/
def keyReserved (k : Key) : Bool := k.getLsbD 12

/-- `key[11:0]`, the offset (R76). -/
def keyOffset (k : Key) : Offset := k.extractLsb' 0 12

/-- The read rule that UART offset `off` selects (R82, R83). -/
def decodeUartRead (p : Params) (off : Offset) : Instr :=
  if off = p.uartOffBaud then .rdUartBaud
  else if off = p.uartOffCtrl then .rdUartCtrl
  else if off = p.uartOffStatus then .rdUartStatus
  else if off = p.uartOffData then .rdUartData
  else .rdUartInvalid off

/-- The write rule that UART offset `off` selects (R82, R83). -/
def decodeUartWrite (p : Params) (off : Offset) (v : Word) : Instr :=
  if off = p.uartOffBaud then .wrUartBaud v
  else if off = p.uartOffCtrl then .wrUartCtrl v
  else if off = p.uartOffStatus then .wrUartStatus v
  else if off = p.uartOffData then .wrUartData v
  else .wrUartInvalid off v

/-- The read rule that CAN offset `off` selects (R82, R84). -/
def decodeCanRead (p : Params) (off : Offset) : Instr :=
  if off = p.canOffMcr then .rdCanMcr
  else if off = p.canOffCtrl then .rdCanCtrl
  else if off = p.canOffStatus then .rdCanStatus
  else if off = p.canOffTxbuf then .rdCanTxbuf
  else if off = p.canOffRxbuf then .rdCanRxbuf
  else if off = p.canOffIrq then .rdCanIrq
  else .rdCanInvalid off

/-- The write rule that CAN offset `off` selects (R82, R84). -/
def decodeCanWrite (p : Params) (off : Offset) (v : Word) : Instr :=
  if off = p.canOffMcr then .wrCanMcr v
  else if off = p.canOffCtrl then .wrCanCtrl v
  else if off = p.canOffStatus then .wrCanStatus v
  else if off = p.canOffTxbuf then .wrCanTxbuf v
  else if off = p.canOffRxbuf then .wrCanRxbuf v
  else if off = p.canOffIrq then .wrCanIrq v
  else .wrCanInvalid off v

/-- The read rule that MPU offset `off` selects (R82, R85). -/
def decodeMpuRead (p : Params) (off : Offset) : Instr :=
  if off = p.mpuOffCesr then .rdMpuCesr
  else if off = p.mpuOffEar then .rdMpuEar
  else if off = p.mpuOffEdr then .rdMpuEdr
  else if off = p.mpuOffRgn0Base then .rdMpuRgn0Base
  else if off = p.mpuOffRgn0Attr then .rdMpuRgn0Attr
  else if off = p.mpuOffRgn1Base then .rdMpuRgn1Base
  else if off = p.mpuOffRgn1Attr then .rdMpuRgn1Attr
  else .rdMpuGated off

/-- The write rule that MPU offset `off` selects (R82, R85). -/
def decodeMpuWrite (p : Params) (off : Offset) (v : Word) : Instr :=
  if off = p.mpuOffCesr then .wrMpuCesr v
  else if off = p.mpuOffEar then .wrMpuEar v
  else if off = p.mpuOffEdr then .wrMpuEdr v
  else if off = p.mpuOffRgn0Base then .wrMpuRgn0Base v
  else if off = p.mpuOffRgn0Attr then .wrMpuRgn0Attr v
  else if off = p.mpuOffRgn1Base then .wrMpuRgn1Base v
  else if off = p.mpuOffRgn1Attr then .wrMpuRgn1Attr v
  else .wrMpuUnauthorized off v

/-- Register decode of an admitted access to the window of `d` (R82). -/
def decodeAccess (p : Params) (d : Device) (write : Bool) (off : Offset) (v : Word) : Instr :=
  match d, write with
  | .uart, false => decodeUartRead p off
  | .uart, true  => decodeUartWrite p off v
  | .can,  false => decodeCanRead p off
  | .can,  true  => decodeCanWrite p off v
  | .mpu,  false => decodeMpuRead p off
  | .mpu,  true  => decodeMpuWrite p off v

/-- The window that a unit code names; none for the check port, unit 11 (R77). -/
def windowOf (u : BitVec 2) : Option Device :=
  if u = 0#2 then some .uart
  else if u = 1#2 then some .can
  else if u = 2#2 then some .mpu
  else none

/-- Admission and decode of a request (R57, R79, R82, R89). A key can name no fourth device: R57 (c) is the reserved
keys of unit 11 (DEDUCED, log 8, safe). -/
def decode (p : Params) (r : Request) : Except Reject Instr :=
  if keyReserved r.key then .error .reservedKeyBit
  else match windowOf (keyUnit r.key) with
    | none =>
      if keyWrites r.key then .error .checkPortWrite
      else if keyOffset r.key ≠ 0#12 then .error .checkPortOffset
      else .ok (.chk r.opA r.opB)
    | some d =>
      if r.size ∉ p.admittedSizes then .error .sizeNotAdmitted
      else if (keyOffset r.key).toNat + r.size > Config.windowSize then .error .outsideWindow
      else .ok (decodeAccess p d (keyWrites r.key) (keyOffset r.key) r.opA)

/-- The key of a unit, a direction and an offset, reserved bit 0 (R76). -/
def mkKey (u : BitVec 2) (write : Bool) (off : Offset) : Key :=
  u ++ BitVec.ofBool write ++ 0#1 ++ off

/-- The unit code of a device's window (R77). -/
def unitOf : Device → BitVec 2
  | .uart => 0#2
  | .can  => 1#2
  | .mpu  => 2#2

/-- A bus read of 4 bytes at `off` of `d` (R13, R75). -/
def busRead (d : Device) (off : Offset) : Request where
  key  := mkKey (unitOf d) false off
  size := 4
  opA  := 0#32
  opB  := 0#32

/-- A bus write of the 4-byte value `v` at `off` of `d` (R13, R75). -/
def busWrite (d : Device) (off : Offset) (v : Word) : Request where
  key  := mkKey (unitOf d) true off
  size := 4
  opA  := v
  opB  := 0#32

/-- A check-port call (R13, R75); its size slot is not looked at. -/
def checkCall (a req : Word) : Request where
  key  := mkKey 3#2 false 0#12
  size := 4
  opA  := a
  opB  := req

/-- The request that selects an instruction under `p` (R76, R83 to R85). -/
def encode (p : Params) : Instr → Request
  | .rdUartBaud => busRead .uart p.uartOffBaud
  | .rdUartCtrl => busRead .uart p.uartOffCtrl
  | .rdUartStatus => busRead .uart p.uartOffStatus
  | .rdUartData => busRead .uart p.uartOffData
  | .wrUartBaud v => busWrite .uart p.uartOffBaud v
  | .wrUartCtrl v => busWrite .uart p.uartOffCtrl v
  | .wrUartStatus v => busWrite .uart p.uartOffStatus v
  | .wrUartData v => busWrite .uart p.uartOffData v
  | .rdUartInvalid off => busRead .uart off
  | .wrUartInvalid off v => busWrite .uart off v
  | .rdCanMcr => busRead .can p.canOffMcr
  | .rdCanCtrl => busRead .can p.canOffCtrl
  | .rdCanStatus => busRead .can p.canOffStatus
  | .rdCanTxbuf => busRead .can p.canOffTxbuf
  | .rdCanRxbuf => busRead .can p.canOffRxbuf
  | .rdCanIrq => busRead .can p.canOffIrq
  | .wrCanMcr v => busWrite .can p.canOffMcr v
  | .wrCanCtrl v => busWrite .can p.canOffCtrl v
  | .wrCanStatus v => busWrite .can p.canOffStatus v
  | .wrCanTxbuf v => busWrite .can p.canOffTxbuf v
  | .wrCanRxbuf v => busWrite .can p.canOffRxbuf v
  | .wrCanIrq v => busWrite .can p.canOffIrq v
  | .rdCanInvalid off => busRead .can off
  | .wrCanInvalid off v => busWrite .can off v
  | .rdMpuCesr => busRead .mpu p.mpuOffCesr
  | .rdMpuEar => busRead .mpu p.mpuOffEar
  | .rdMpuEdr => busRead .mpu p.mpuOffEdr
  | .rdMpuRgn0Base => busRead .mpu p.mpuOffRgn0Base
  | .rdMpuRgn0Attr => busRead .mpu p.mpuOffRgn0Attr
  | .rdMpuRgn1Base => busRead .mpu p.mpuOffRgn1Base
  | .rdMpuRgn1Attr => busRead .mpu p.mpuOffRgn1Attr
  | .wrMpuCesr v => busWrite .mpu p.mpuOffCesr v
  | .wrMpuEar v => busWrite .mpu p.mpuOffEar v
  | .wrMpuEdr v => busWrite .mpu p.mpuOffEdr v
  | .wrMpuRgn0Base v => busWrite .mpu p.mpuOffRgn0Base v
  | .wrMpuRgn0Attr v => busWrite .mpu p.mpuOffRgn0Attr v
  | .wrMpuRgn1Base v => busWrite .mpu p.mpuOffRgn1Base v
  | .wrMpuRgn1Attr v => busWrite .mpu p.mpuOffRgn1Attr v
  | .rdMpuGated off => busRead .mpu off
  | .wrMpuUnauthorized off v => busWrite .mpu off v
  | .chk a req => checkCall a req

/-- The device a transaction is performed on; the check port belongs to the MPU (R77). -/
def Instr.device : Instr → Device
  | .rdUartBaud => .uart
  | .rdUartCtrl => .uart
  | .rdUartStatus => .uart
  | .rdUartData => .uart
  | .wrUartBaud _ => .uart
  | .wrUartCtrl _ => .uart
  | .wrUartStatus _ => .uart
  | .wrUartData _ => .uart
  | .rdUartInvalid _ => .uart
  | .wrUartInvalid _ _ => .uart
  | .rdCanMcr => .can
  | .rdCanCtrl => .can
  | .rdCanStatus => .can
  | .rdCanTxbuf => .can
  | .rdCanRxbuf => .can
  | .rdCanIrq => .can
  | .wrCanMcr _ => .can
  | .wrCanCtrl _ => .can
  | .wrCanStatus _ => .can
  | .wrCanTxbuf _ => .can
  | .wrCanRxbuf _ => .can
  | .wrCanIrq _ => .can
  | .rdCanInvalid _ => .can
  | .wrCanInvalid _ _ => .can
  | .rdMpuCesr => .mpu
  | .rdMpuEar => .mpu
  | .rdMpuEdr => .mpu
  | .rdMpuRgn0Base => .mpu
  | .rdMpuRgn0Attr => .mpu
  | .rdMpuRgn1Base => .mpu
  | .rdMpuRgn1Attr => .mpu
  | .wrMpuCesr _ => .mpu
  | .wrMpuEar _ => .mpu
  | .wrMpuEdr _ => .mpu
  | .wrMpuRgn0Base _ => .mpu
  | .wrMpuRgn0Attr _ => .mpu
  | .wrMpuRgn1Base _ => .mpu
  | .wrMpuRgn1Attr _ => .mpu
  | .rdMpuGated _ => .mpu
  | .wrMpuUnauthorized _ _ => .mpu
  | .chk _ _ => .mpu

/-- Whether a transaction is a bus write (R75). -/
def Instr.isWrite : Instr → Bool
  | .rdUartBaud => false
  | .rdUartCtrl => false
  | .rdUartStatus => false
  | .rdUartData => false
  | .wrUartBaud _ => true
  | .wrUartCtrl _ => true
  | .wrUartStatus _ => true
  | .wrUartData _ => true
  | .rdUartInvalid _ => false
  | .wrUartInvalid _ _ => true
  | .rdCanMcr => false
  | .rdCanCtrl => false
  | .rdCanStatus => false
  | .rdCanTxbuf => false
  | .rdCanRxbuf => false
  | .rdCanIrq => false
  | .wrCanMcr _ => true
  | .wrCanCtrl _ => true
  | .wrCanStatus _ => true
  | .wrCanTxbuf _ => true
  | .wrCanRxbuf _ => true
  | .wrCanIrq _ => true
  | .rdCanInvalid _ => false
  | .wrCanInvalid _ _ => true
  | .rdMpuCesr => false
  | .rdMpuEar => false
  | .rdMpuEdr => false
  | .rdMpuRgn0Base => false
  | .rdMpuRgn0Attr => false
  | .rdMpuRgn1Base => false
  | .rdMpuRgn1Attr => false
  | .wrMpuCesr _ => true
  | .wrMpuEar _ => true
  | .wrMpuEdr _ => true
  | .wrMpuRgn0Base _ => true
  | .wrMpuRgn0Attr _ => true
  | .wrMpuRgn1Base _ => true
  | .wrMpuRgn1Attr _ => true
  | .rdMpuGated _ => false
  | .wrMpuUnauthorized _ _ => true
  | .chk _ _ => false

/-- Whether a transaction is a check-port call (R75). -/
def Instr.isCheck : Instr → Bool
  | .rdUartBaud => false
  | .rdUartCtrl => false
  | .rdUartStatus => false
  | .rdUartData => false
  | .wrUartBaud _ => false
  | .wrUartCtrl _ => false
  | .wrUartStatus _ => false
  | .wrUartData _ => false
  | .rdUartInvalid _ => false
  | .wrUartInvalid _ _ => false
  | .rdCanMcr => false
  | .rdCanCtrl => false
  | .rdCanStatus => false
  | .rdCanTxbuf => false
  | .rdCanRxbuf => false
  | .rdCanIrq => false
  | .wrCanMcr _ => false
  | .wrCanCtrl _ => false
  | .wrCanStatus _ => false
  | .wrCanTxbuf _ => false
  | .wrCanRxbuf _ => false
  | .wrCanIrq _ => false
  | .rdCanInvalid _ => false
  | .wrCanInvalid _ _ => false
  | .rdMpuCesr => false
  | .rdMpuEar => false
  | .rdMpuEdr => false
  | .rdMpuRgn0Base => false
  | .rdMpuRgn0Attr => false
  | .rdMpuRgn1Base => false
  | .rdMpuRgn1Attr => false
  | .wrMpuCesr _ => false
  | .wrMpuEar _ => false
  | .wrMpuEdr _ => false
  | .wrMpuRgn0Base _ => false
  | .wrMpuRgn0Attr _ => false
  | .wrMpuRgn1Base _ => false
  | .wrMpuRgn1Attr _ => false
  | .rdMpuGated _ => false
  | .wrMpuUnauthorized _ _ => false
  | .chk _ _ => true

/-- The request of an opcode-table word: key in bits 15..0, then the operands, first the value or the address in
bits 47..16, then the required permission in bits 79..48; bits at and above `nbits` are 0. The size has no bits in
the table, which says it must be 4 (DESIGN CHOICE, log 4, safe). -/
def requestOfWord (nbits w : Nat) : Request where
  key  := BitVec.ofNat 16 (w % 2 ^ nbits)
  size := 4
  opA  := BitVec.ofNat 32 (w % 2 ^ nbits / 2 ^ 16)
  opB  := BitVec.ofNat 32 (w % 2 ^ nbits / 2 ^ 48)

/-- What the decoder reads from an opcode-table word, at the default offsets the table's keys are written for (R95). -/
def decodeTableWord (nbits w : Nat) : Option Instr :=
  match decode Params.atReset (requestOfWord nbits w) with
  | .ok i => some i
  | .error _ => none

end Sys2Proof
end

