-- ==== Sys2Proof/Machine/State.lean ====
section
/-! DEFINITION. The state of the block (10_state.md): the three device records, the output channels, the
platform's schedule, and the state at creation. -/

namespace Sys2Proof.Machine

/-- The UART registers and latches (R22 to R27). -/
structure Uart where
  /-- R22. -/
  baudRate         : Word
  /-- R23: bit 1 = IE. -/
  control          : Word
  /-- R24: bit 0 = TX_COMPLETE. -/
  status           : Word
  /-- R25. -/
  data             : Word
  /-- R26: the mirror of `control[1]`. -/
  interruptEnabled : Bool
  /-- R27. -/
  irqLevel         : Bool
  deriving DecidableEq, Repr

/-- The CAN registers and latches (R28 to R34). -/
structure Can where
  /-- R28. -/
  mcr      : Word
  /-- R29: bit 2 = LOOPBACK. -/
  ctrl     : Word
  /-- R30: bit 0 = TX_READY, bit 1 = RX_READY. -/
  status   : Word
  /-- R31. -/
  txBuf    : Word
  /-- R32. -/
  rxBuf    : Word
  /-- R33. -/
  irqReg   : Word
  /-- R34. -/
  irqLevel : Bool
  deriving DecidableEq, Repr

/-- One region descriptor (R38, R39). -/
structure Region where
  base : Word
  attr : Word
  deriving DecidableEq, Repr

/-- The MPU registers and its fault line (R35 to R40). -/
structure Mpu where
  /-- R35: bit 0 = EN. -/
  cesr     : Word
  /-- R36. -/
  ear      : Word
  /-- R37. -/
  edr      : Word
  /-- R38: descriptor 0. -/
  region0  : Region
  /-- R38: descriptor 1. -/
  region1  : Region
  /-- R40. -/
  irqLevel : Bool
  deriving DecidableEq, Repr

/-- The log kinds (R14, R159). -/
inductive LogKind where
  | invalidRead
  | invalidWrite
  | protectionViolation
  | unauthorizedWrite
  deriving DecidableEq, Repr

/-- An output event (R14, R63). -/
inductive Event where
  /-- `emit(b)`: byte `b` to the UART byte sink. -/
  | emit (b : Byte)
  /-- The line of `d` is driven asserted. -/
  | irqAssert (d : Device)
  /-- The line of `d` is driven deasserted. -/
  | irqDeassert (d : Device)
  /-- A diagnostic record; outside the observation (D22; DESIGN CHOICE, log 6, unsafe if a claim reads it). -/
  | log (kind : LogKind) (off : Offset)
  deriving DecidableEq, Repr

/-- What a transaction hands back to the platform (R71, R78); a write hands back nothing. -/
inductive Reply where
  /-- Read data. -/
  | data (v : Word)
  /-- The check port's answer: true is allowed. -/
  | verdict (allowed : Bool)
  deriving DecidableEq, Repr

/-- Which device instances the platform has created (R176, R179). -/
structure Created where
  uart : Bool
  can  : Bool
  mpu  : Bool
  deriving DecidableEq, Repr

/-- Why the machine stops. The block itself has no fault (R157, R158). -/
inductive Fault where
  /-- Raised by the step when the schedule is empty: the run has ended (R188). No error; safe (log 4). -/
  | endOfRun
  deriving DecidableEq, Repr

/-- Why a transaction is not admitted. Each is safe: no claim about a run through one can be proved (R57). -/
inductive Refusal where
  /-- An arm of exec with no meaning yet; no arm is one. Safe. -/
  | notModelled (mnemonic : String)
  /-- Raised by admission: the parameter record fails R9, R54 or R59. Safe. -/
  | illFormedParameters
  /-- Raised by admission: the state breaks R48 to R52 (R52, R154, K13, K14). Safe. -/
  | illegalStartState
  /-- Raised by admission: the request is not one the decoder admits (R57, R89). Safe. -/
  | notAdmitted (why : Reject)
  /-- Raised by admission: the device is not created yet (R179). Safe. -/
  | deviceNotCreated (d : Device)
  deriving DecidableEq, Repr

/-- The state of the block and of its channels to the platform. -/
structure State where
  /-- The parameter record, fixed for a run (R8; DESIGN CHOICE, log 1, safe). -/
  params   : Params
  /-- The instances that exist (R179; DESIGN CHOICE, log 10, safe). -/
  created  : Created
  uart     : Uart
  can      : Can
  mpu      : Mpu
  /-- The concatenated output lists, oldest event first (R63, R188; DESIGN CHOICE, log 5, safe). -/
  out      : List Event
  /-- What reads and checks handed back, oldest first (R71; DESIGN CHOICE, log 5, safe). -/
  replies  : List Reply
  /-- The transactions the platform has yet to issue, the next one first (R65, R94; DESIGN CHOICE, log 4, safe). -/
  schedule : List Request
  deriving DecidableEq, Repr

/-- The UART at creation (R44). The line's 0 is the spec's D12 (UNVERIFIED, log 7, unsafe), here and below. -/
def Uart.reset : Uart where
  baudRate         := 0x00000000#32
  control          := 0x00000000#32
  status           := 0x00000001#32
  data             := 0x00000000#32
  interruptEnabled := false
  irqLevel         := false

/-- The CAN controller at creation (R45). -/
def Can.reset : Can where
  mcr      := 0x00000000#32
  ctrl     := 0x00000000#32
  status   := 0x00000001#32
  txBuf    := 0x00000000#32
  rxBuf    := 0x00000000#32
  irqReg   := 0x00000000#32
  irqLevel := false

/-- The MPU at creation (R46). -/
def Mpu.reset : Mpu where
  cesr     := 0x00000001#32
  ear      := 0x00000000#32
  edr      := 0x00000000#32
  region0  := { base := 0x00000000#32, attr := 0x00000000#32 }
  region1  := { base := 0x00000000#32, attr := 0x00000000#32 }
  irqLevel := false

/-- All three instances just created under the record `p` (R43, R176): nothing output, nothing scheduled. -/
def State.resetWith (p : Params) : State where
  params   := p
  created  := { uart := true, can := true, mpu := true }
  uart     := Uart.reset
  can      := Can.reset
  mpu      := Mpu.reset
  out      := []
  replies  := []
  schedule := []

/-- The state after reset, with the decided defaults of R8 (log 2 for the OPEN ones). -/
def State.reset : State := State.resetWith Params.atReset

end Sys2Proof.Machine
end

