-- ==== Sys2Proof/Machine/Flags.lean ====
section
/-! DEFINITION. The flags of R41: where each stands in its register, and how it is set and cleared. -/

namespace Sys2Proof.Machine

/-- UART TX_COMPLETE, `UART.status[0]` (R24). -/
def txComplete (status : Word) : Bool := status.getLsbD 0

/-- UART STATUS with TX_COMPLETE set (R104 step 3). -/
def setTxComplete (status : Word) : Word := status ||| 0x00000001#32

/-- UART STATUS with TX_COMPLETE cleared (R103, CLEAR). -/
def clearTxComplete (status : Word) : Word := status &&& 0xFFFFFFFE#32

/-- UART IE, `UART.control[1]` (R23). -/
def interruptEnable (control : Word) : Bool := control.getLsbD 1

/-- CAN TX_READY, `CAN.status[0]` (R30). -/
def txReady (status : Word) : Bool := status.getLsbD 0

/-- CAN STATUS with TX_READY set (R113, R121). -/
def setTxReady (status : Word) : Word := status ||| 0x00000001#32

/-- CAN RX_READY, `CAN.status[1]` (R30). -/
def rxReady (status : Word) : Bool := status.getLsbD 1

/-- CAN STATUS with RX_READY set (R121). -/
def setRxReady (status : Word) : Word := status ||| 0x00000002#32

/-- CAN LOOPBACK, `CAN.ctrl[2]` (R29). -/
def loopback (ctrl : Word) : Bool := ctrl.getLsbD 2

/-- MPU EN, `MPU.cesr[0]` (R35). -/
def enabled (cesr : Word) : Bool := cesr.getLsbD 0

end Sys2Proof.Machine
end

