-- ==== Sys2Proof/Machine/Operands.lean ====
section
/-! DEFINITION. Operand and result assembly: what a write stores of its value (R86), what a read returns (R87). -/

namespace Sys2Proof.Machine

/-- The byte a DATA write transmits, `v[7:0]` (R59, R104). -/
def txByte (v : Word) : Byte := v.extractLsb' 0 8

/-- What a CESR write stores: the enable bit forced set (R145). -/
def storedCesr (v : Word) : Word := v ||| 0x00000001#32

/-- What a region base write stores: 16-byte aligned (R148, R150). -/
def storedBase (v : Word) : Word := v &&& Config.baseAlignMask

/-- What a region attribute write stores: the low 4 bits (R149, R151). -/
def storedAttr (v : Word) : Word := v &&& Config.attrMask

/-- What a UART STATUS write leaves in STATUS, in either mode (R103). -/
def storedUartStatus (m : UartStatusWriteMode) (status v : Word) : Word :=
  match m with
  | .clear    => clearTxComplete status
  | .verbatim => v

/-- What a CAN STATUS read returns, in either mode (R113). -/
def canStatusData (m : CanStatusReadMode) (status : Word) : Word :=
  match m with
  | .forceTxReady => setTxReady status
  | .stored       => status

/-- What a read at an invalid or non-configuration offset returns (R87). -/
def invalidData : Word := 0x00000000#32

/-- The address the MPU's own read path passes to the check: `zext_32(off)` (R55, R142). -/
def offsetAddress (off : Offset) : Word := off.zeroExtend 32

end Sys2Proof.Machine
end

