-- ==== Sys2Proof/Machine/Ops.lean ====
section
/-! DEFINITION. The named operations over the state: replies and output events (R13, R14), the permission check
(R138 to R141), and the fault record (R143), which is all the block has in place of an exception (R158, R167). -/

namespace Sys2Proof.Machine

/-- What every meaning answers. -/
abbrev Result := Host.Outcome State Fault Refusal

/-- The state with the UART record replaced. -/
def State.withUart (s : State) (u : Uart) : State := { s with uart := u }

/-- The state with the CAN record replaced. -/
def State.withCan (s : State) (c : Can) : State := { s with can := c }

/-- The state with the MPU record replaced. -/
def State.withMpu (s : State) (m : Mpu) : State := { s with mpu := m }

/-- `return v`, or the check port's answer, to the platform (R13, R71). -/
def State.answer (s : State) (r : Reply) : State := { s with replies := s.replies ++ [r] }

/-- One event appended to the output list (R14, R63). -/
def State.output (s : State) (e : Event) : State := { s with out := s.out ++ [e] }

/-- `emit(b)` (R14, R64: the sink always accepts). -/
def State.emitByte (s : State) (b : Byte) : State := s.output (.emit b)

/-- `log(kind, off)` (R14). -/
def State.logRecord (s : State) (k : LogKind) (off : Offset) : State := s.output (.log k off)

/-- The level of the line of `d` set to `level` (R27, R34, R40). -/
def State.driveLine (s : State) (d : Device) (level : Bool) : State :=
  match d with
  | .uart => s.withUart { s.uart with irqLevel := level }
  | .can  => s.withCan { s.can with irqLevel := level }
  | .mpu  => s.withMpu { s.mpu with irqLevel := level }

/-- `irq_assert(d)` (R14): an event even when the level does not change (D12). -/
def State.irqAssert (s : State) (d : Device) : State := (s.driveLine d true).output (.irqAssert d)

/-- `irq_deassert(d)` (R14). -/
def State.irqDeassert (s : State) (d : Device) : State := (s.driveLine d false).output (.irqDeassert d)

/-- The end of the region at base `b`, by either arithmetic (R140). -/
def regionEnd (wraps : Bool) (b : Word) : Nat :=
  if wraps then (b.toNat + Config.regionSize) % 2 ^ 32 else b.toNat + Config.regionSize

/-- `InRegion(a, b)` (R139, R140). -/
def inRegion (p : Params) (a b : Word) : Bool :=
  decide (b.toNat ≤ a.toNat) && decide (a.toNat < regionEnd p.regionEndWraps b)

/-- The two descriptors, in index order (R38). -/
def regions (m : Mpu) : List Region := [m.region0, m.region1]

/-- A region that matches `a` and shares no permission bit with `req` denies the access (R138). -/
def denies (p : Params) (a req : Word) (r : Region) : Bool :=
  inRegion p a r.base && (r.attr &&& req == 0#32)

/-- `Allowed(a, req)` (R138). It reads only the region descriptors (R141). -/
def allowed (p : Params) (m : Mpu) (a req : Word) : Bool :=
  (regions m).all fun r => !denies p a req r

/-- The fault record: the address and the fault marker (R143, R153). -/
def State.recordViolation (s : State) (a : Word) : State :=
  s.withMpu { s.mpu with ear := a, edr := Config.edrFaultMarker }

end Sys2Proof.Machine
end

