-- ==== Sys2Proof/Machine/Can.lean ====
section
/-! DEFINITION. The CAN transactions (41_can.md). -/

namespace Sys2Proof.Machine

/-- R111. -/
def execRdCanMcr (s : State) : Result :=
  .next (s.answer (.data s.can.mcr))

/-- R112. -/
def execRdCanCtrl (s : State) : Result :=
  .next (s.answer (.data s.can.ctrl))

/-- R113: the stored status is unchanged in either mode. -/
def execRdCanStatus (s : State) : Result :=
  .next (s.answer (.data (canStatusData s.params.canStatusReadMode s.can.status)))

/-- R114. -/
def execRdCanTxbuf (s : State) : Result :=
  .next (s.answer (.data s.can.txBuf))

/-- R115: the read does not clear RX_READY. -/
def execRdCanRxbuf (s : State) : Result :=
  .next (s.answer (.data s.can.rxBuf))

/-- R116: it does not reflect the line level. -/
def execRdCanIrq (s : State) : Result :=
  .next (s.answer (.data s.can.irqReg))

/-- R117. -/
def execRdCanInvalid (off : Offset) (s : State) : Result :=
  .next ((s.logRecord .invalidRead off).answer (.data invalidData))

/-- R118. -/
def execWrCanMcr (v : Word) (s : State) : Result :=
  .next (s.withCan { s.can with mcr := v })

/-- R119: setting LOOPBACK copies nothing. -/
def execWrCanCtrl (v : Word) (s : State) : Result :=
  .next (s.withCan { s.can with ctrl := v })

/-- R120: the verbatim store, and the deassertion of D14. -/
def execWrCanStatus (v : Word) (s : State) : Result :=
  let stored := s.withCan { s.can with status := v }
  .next (if s.params.canStatusWriteLowersIrq then stored.irqDeassert .can else stored)

/-- R121, in its order (R122): store, TX_READY, loopback copy and RX_READY, assertion. -/
def execWrCanTxbuf (v : Word) (s : State) : Result :=
  let loaded := s.withCan { s.can with txBuf := v }
  let ready := loaded.withCan { loaded.can with status := setTxReady loaded.can.status }
  let mirrored := if loopback ready.can.ctrl
    then ready.withCan { ready.can with rxBuf := v, status := setRxReady ready.can.status }
    else ready
  .next (mirrored.irqAssert .can)

/-- R123: RX_READY is not set. -/
def execWrCanRxbuf (v : Word) (s : State) : Result :=
  .next (s.withCan { s.can with rxBuf := v })

/-- R124: ignored and logged, or stored (D15). -/
def execWrCanIrq (v : Word) (s : State) : Result :=
  match s.params.canIrqWrite with
  | .store  => .next (s.withCan { s.can with irqReg := v })
  | .ignore => .next (s.logRecord .invalidWrite s.params.canOffIrq)

/-- R125: v is ignored. -/
def execWrCanInvalid (off : Offset) (_v : Word) (s : State) : Result :=
  .next (s.logRecord .invalidWrite off)

end Sys2Proof.Machine
end

