-- ==== Sys2Proof/Machine/Mpu.lean ====
section
/-! DEFINITION. The MPU transactions and the check port (42_mpu.md). -/

namespace Sys2Proof.Machine

/-- R130. -/
def execRdMpuCesr (s : State) : Result :=
  .next (s.answer (.data s.mpu.cesr))

/-- R131. -/
def execRdMpuEar (s : State) : Result :=
  .next (s.answer (.data s.mpu.ear))

/-- R132. -/
def execRdMpuEdr (s : State) : Result :=
  .next (s.answer (.data s.mpu.edr))

/-- R133. -/
def execRdMpuRgn0Base (s : State) : Result :=
  .next (s.answer (.data s.mpu.region0.base))

/-- R134. -/
def execRdMpuRgn0Attr (s : State) : Result :=
  .next (s.answer (.data s.mpu.region0.attr))

/-- R135. -/
def execRdMpuRgn1Base (s : State) : Result :=
  .next (s.answer (.data s.mpu.region1.base))

/-- R136. -/
def execRdMpuRgn1Attr (s : State) : Result :=
  .next (s.answer (.data s.mpu.region1.attr))

/-- R142: the gated read. Denied, it records the fault and logs it (R143); allowed, it reads nothing (R144, D16). -/
def execRdMpuGated (off : Offset) (s : State) : Result :=
  if allowed s.params s.mpu (offsetAddress off) s.params.permRead then
    .next ((s.logRecord .invalidRead off).answer (.data invalidData))
  else
    .next (((s.recordViolation (offsetAddress off)).logRecord .protectionViolation off).answer
      (.data invalidData))

/-- R145. -/
def execWrMpuCesr (v : Word) (s : State) : Result :=
  .next (s.withMpu { s.mpu with cesr := storedCesr v })

/-- R146 (D18). -/
def execWrMpuEar (v : Word) (s : State) : Result :=
  .next (s.withMpu { s.mpu with ear := v })

/-- R147 (D18). -/
def execWrMpuEdr (v : Word) (s : State) : Result :=
  .next (s.withMpu { s.mpu with edr := v })

/-- R148. -/
def execWrMpuRgn0Base (v : Word) (s : State) : Result :=
  .next (s.withMpu { s.mpu with region0 := { s.mpu.region0 with base := storedBase v } })

/-- R149. -/
def execWrMpuRgn0Attr (v : Word) (s : State) : Result :=
  .next (s.withMpu { s.mpu with region0 := { s.mpu.region0 with attr := storedAttr v } })

/-- R150. -/
def execWrMpuRgn1Base (v : Word) (s : State) : Result :=
  .next (s.withMpu { s.mpu with region1 := { s.mpu.region1 with base := storedBase v } })

/-- R151. -/
def execWrMpuRgn1Attr (v : Word) (s : State) : Result :=
  .next (s.withMpu { s.mpu with region1 := { s.mpu.region1 with attr := storedAttr v } })

/-- R152: no check, no fault record; v is ignored. -/
def execWrMpuUnauthorized (off : Offset) (_v : Word) (s : State) : Result :=
  .next (s.logRecord .unauthorizedWrite off)

/-- R153: the check port; whether a denial records is a parameter (D17). -/
def execChk (a req : Word) (s : State) : Result :=
  let granted := allowed s.params s.mpu a req
  let recorded := if !granted && s.params.mpuCheckRecords then s.recordViolation a else s
  .next (recorded.answer (.verdict granted))

end Sys2Proof.Machine
end

