-- ==== Sys2Proof/Machine/Uart.lean ====
section
/-! DEFINITION. The UART transactions (40_uart.md). -/

namespace Sys2Proof.Machine

/-- R96. -/
def execRdUartBaud (s : State) : Result :=
  .next (s.answer (.data s.uart.baudRate))

/-- R97. -/
def execRdUartCtrl (s : State) : Result :=
  .next (s.answer (.data s.uart.control))

/-- R98: the read does not clear TX_COMPLETE. -/
def execRdUartStatus (s : State) : Result :=
  .next (s.answer (.data s.uart.status))

/-- R99: all 32 bits as last written (D21). -/
def execRdUartData (s : State) : Result :=
  .next (s.answer (.data s.uart.data))

/-- R100. -/
def execRdUartInvalid (off : Offset) (s : State) : Result :=
  .next ((s.logRecord .invalidRead off).answer (.data invalidData))

/-- R101. -/
def execWrUartBaud (v : Word) (s : State) : Result :=
  .next (s.withUart { s.uart with baudRate := v })

/-- R102: neither edge of IE drives the line. -/
def execWrUartCtrl (v : Word) (s : State) : Result :=
  .next (s.withUart { s.uart with control := v, interruptEnabled := interruptEnable v })

/-- R103: both write modes, and the deassertion of D13. -/
def execWrUartStatus (v : Word) (s : State) : Result :=
  let cleared := s.withUart { s.uart with
    status := storedUartStatus s.params.uartStatusWriteMode s.uart.status v }
  .next (if s.params.uartStatusWriteLowersIrq then cleared.irqDeassert .uart else cleared)

/-- R104, in its four steps (R106): data, emission, status flag, interrupt evaluation. -/
def execWrUartData (v : Word) (s : State) : Result :=
  let written := s.withUart { s.uart with data := v }
  let sent := written.emitByte (txByte v)
  let flagged := sent.withUart { sent.uart with status := setTxComplete sent.uart.status }
  .next (if flagged.uart.interruptEnabled && txComplete flagged.uart.status
    then flagged.irqAssert .uart else flagged)

/-- R105: v is ignored. -/
def execWrUartInvalid (off : Offset) (_v : Word) (s : State) : Result :=
  .next (s.logRecord .invalidWrite off)

end Sys2Proof.Machine
end

