-- ==== Sys2Proof/Machine/Dispatch.lean ====
section
/-! DEFINITION. One arm per constructor of Instr, each a direct call of that transaction's meaning. -/

namespace Sys2Proof.Machine

/-- The effect of one admitted transaction (R16, R65). -/
def exec (i : Instr) (s : State) : Host.Outcome State Fault Refusal :=
  match i with
  | .rdUartBaud => Sys2Proof.Machine.execRdUartBaud s
  | .rdUartCtrl => Sys2Proof.Machine.execRdUartCtrl s
  | .rdUartStatus => Sys2Proof.Machine.execRdUartStatus s
  | .rdUartData => Sys2Proof.Machine.execRdUartData s
  | .wrUartBaud v => Sys2Proof.Machine.execWrUartBaud v s
  | .wrUartCtrl v => Sys2Proof.Machine.execWrUartCtrl v s
  | .wrUartStatus v => Sys2Proof.Machine.execWrUartStatus v s
  | .wrUartData v => Sys2Proof.Machine.execWrUartData v s
  | .rdUartInvalid off => Sys2Proof.Machine.execRdUartInvalid off s
  | .wrUartInvalid off v => Sys2Proof.Machine.execWrUartInvalid off v s
  | .rdCanMcr => Sys2Proof.Machine.execRdCanMcr s
  | .rdCanCtrl => Sys2Proof.Machine.execRdCanCtrl s
  | .rdCanStatus => Sys2Proof.Machine.execRdCanStatus s
  | .rdCanTxbuf => Sys2Proof.Machine.execRdCanTxbuf s
  | .rdCanRxbuf => Sys2Proof.Machine.execRdCanRxbuf s
  | .rdCanIrq => Sys2Proof.Machine.execRdCanIrq s
  | .wrCanMcr v => Sys2Proof.Machine.execWrCanMcr v s
  | .wrCanCtrl v => Sys2Proof.Machine.execWrCanCtrl v s
  | .wrCanStatus v => Sys2Proof.Machine.execWrCanStatus v s
  | .wrCanTxbuf v => Sys2Proof.Machine.execWrCanTxbuf v s
  | .wrCanRxbuf v => Sys2Proof.Machine.execWrCanRxbuf v s
  | .wrCanIrq v => Sys2Proof.Machine.execWrCanIrq v s
  | .rdCanInvalid off => Sys2Proof.Machine.execRdCanInvalid off s
  | .wrCanInvalid off v => Sys2Proof.Machine.execWrCanInvalid off v s
  | .rdMpuCesr => Sys2Proof.Machine.execRdMpuCesr s
  | .rdMpuEar => Sys2Proof.Machine.execRdMpuEar s
  | .rdMpuEdr => Sys2Proof.Machine.execRdMpuEdr s
  | .rdMpuRgn0Base => Sys2Proof.Machine.execRdMpuRgn0Base s
  | .rdMpuRgn0Attr => Sys2Proof.Machine.execRdMpuRgn0Attr s
  | .rdMpuRgn1Base => Sys2Proof.Machine.execRdMpuRgn1Base s
  | .rdMpuRgn1Attr => Sys2Proof.Machine.execRdMpuRgn1Attr s
  | .wrMpuCesr v => Sys2Proof.Machine.execWrMpuCesr v s
  | .wrMpuEar v => Sys2Proof.Machine.execWrMpuEar v s
  | .wrMpuEdr v => Sys2Proof.Machine.execWrMpuEdr v s
  | .wrMpuRgn0Base v => Sys2Proof.Machine.execWrMpuRgn0Base v s
  | .wrMpuRgn0Attr v => Sys2Proof.Machine.execWrMpuRgn0Attr v s
  | .wrMpuRgn1Base v => Sys2Proof.Machine.execWrMpuRgn1Base v s
  | .wrMpuRgn1Attr v => Sys2Proof.Machine.execWrMpuRgn1Attr v s
  | .rdMpuGated off => Sys2Proof.Machine.execRdMpuGated off s
  | .wrMpuUnauthorized off v => Sys2Proof.Machine.execWrMpuUnauthorized off v s
  | .chk a req => Sys2Proof.Machine.execChk a req s

end Sys2Proof.Machine
end

