-- ==== Sys2Proof/Machine/Admit.lean ====
section
/-! DEFINITION. Admission of a presented transaction: the launch premises (R48 to R52, R154), the creation of the device
(R179), and the decoder's own refusals (R57). -/

namespace Sys2Proof.Machine

/-- R48 and, in CLEAR mode, R49. -/
abbrev uartLegal (p : Params) (u : Uart) : Prop :=
  u.interruptEnabled = u.control.getLsbD 1 ∧
  (p.uartStatusWriteMode = .clear → u.status = 0x00000000#32 ∨ u.status = 0x00000001#32)

/-- R52: the IRQ register keeps its reset value in IGNORE mode. -/
abbrev canLegal (p : Params) (c : Can) : Prop :=
  p.canIrqWrite = .ignore → c.irqReg = 0x00000000#32

/-- R51, for one descriptor. -/
abbrev regionLegal (r : Region) : Prop :=
  r.base &&& 0x0000000F#32 = 0#32 ∧ r.attr &&& 0xFFFFFFF0#32 = 0#32

/-- R50 to R52: enabled, descriptors masked, line down. -/
abbrev mpuLegal (m : Mpu) : Prop :=
  m.cesr.getLsbD 0 = true ∧ regionLegal m.region0 ∧ regionLegal m.region1 ∧ m.irqLevel = false

/-- The states of R48 to R52, the launch premises (R52, R154, K13, K14). -/
abbrev State.Legal (s : State) : Prop :=
  uartLegal s.params s.uart ∧ canLegal s.params s.can ∧ mpuLegal s.mpu

/-- Whether the platform has created device `d` (R179). -/
def hasDevice (c : Created) : Device → Bool
  | .uart => c.uart
  | .can  => c.can
  | .mpu  => c.mpu

/-- The instruction a presented request selects, or why it is refused. The launch premises are checked before every
transaction (DESIGN CHOICE, log 9, safe). -/
def acceptRequest (s : State) (r : Request) : Except Refusal Instr :=
  if ¬ s.params.WF then .error .illFormedParameters
  else if ¬ s.Legal then .error .illegalStartState
  else match decode s.params r with
    | .error why => .error (.notAdmitted why)
    | .ok i => if hasDevice s.created i.device then .ok i else .error (.deviceNotCreated i.device)

/-- The request of an opcode-table word presented next, before what is already scheduled (DESIGN CHOICE, log 4, safe). -/
def State.present (s : State) (r : Request) : State := { s with schedule := r :: s.schedule }

end Sys2Proof.Machine
end

