-- ==== Sys2Proof/Machine/Step.lean ====
section
/-! DEFINITION. One step: the platform issues the next transaction of its schedule and the block performs it (R65, R66). -/

namespace Sys2Proof.Machine

/-- Perform the transaction at the head of the schedule; with none left the run has ended (R188), and a refused one has
no step (R57). -/
def step (s : State) : Host.Outcome State Fault Refusal :=
  match s.schedule with
  | [] => .fault .endOfRun
  | r :: rest =>
    match acceptRequest s r with
    | .error why => .refused why
    | .ok i => exec i { s with schedule := rest }

/-- The state with an opcode-table word presented as the next transaction (log 4). -/
def State.withFetchWord (s : State) (nbits w : Nat) : State := s.present (requestOfWord nbits w)

end Sys2Proof.Machine
end

