-- ==== Sys2Proof/Safety.lean ====
section
/-! DEFINITION. The terms the statements use: what is observed of a run, a sequence of transactions, what a
transaction leaves alone, and the spec's two state machines (R107, R126). -/

namespace Sys2Proof.Machine

/-- Log events are outside the observation (D22, R160). -/
def Event.observable : Event → Bool
  | .emit _        => true
  | .irqAssert _   => true
  | .irqDeassert _ => true
  | .log _ _       => false

/-- The interrupt events (R166). -/
def Event.isInterrupt : Event → Bool
  | .emit _        => false
  | .irqAssert _   => true
  | .irqDeassert _ => true
  | .log _ _       => false

/-- The observed part of an output list (D22). -/
def observed (out : List Event) : List Event := out.filter Event.observable

/-- A state with the log records taken off its output list: what a claim may look at (D22, R160). -/
def upToLogs (s : State) : State := { s with out := observed s.out }

/-- The transaction completes, and its next state is `u`, log records aside. -/
def completesAs (i : Instr) (s u : State) : Prop := ∃ t, exec i s = .next t ∧ upToLogs t = upToLogs u

/-- A finite sequence of transactions, each performed on the state the one before it left (R66, R94). -/
def runInstrs : List Instr → State → Host.Outcome State Fault Refusal
  | [], s => .next s
  | i :: is, s =>
    match exec i s with
    | .next t    => runInstrs is t
    | .fault f   => .fault f
    | .refused r => .refused r

/-- The architectural state, the tuple of R21, is the same. -/
def sameDevices (s t : State) : Prop := t.uart = s.uart ∧ t.can = s.can ∧ t.mpu = s.mpu

/-- What no transaction touches: the parameter record, the instances, the platform's schedule. -/
def sameSetup (s t : State) : Prop :=
  t.params = s.params ∧ t.created = s.created ∧ t.schedule = s.schedule

/-- The records of every device but `d` are the same (R73). -/
def sameButDevice (d : Device) (s t : State) : Prop :=
  (d ≠ .uart → t.uart = s.uart) ∧ (d ≠ .can → t.can = s.can) ∧ (d ≠ .mpu → t.mpu = s.mpu)

/-- The record of device `d` is the same. -/
def sameDevice (d : Device) (s t : State) : Prop :=
  (d = .uart → t.uart = s.uart) ∧ (d = .can → t.can = s.can) ∧ (d = .mpu → t.mpu = s.mpu)

/-- A state that a run may start from: a well-formed record (R9, R54) and the launch premises (R52). -/
def launchable (s : State) : Prop := s.params.WF ∧ s.Legal

/-- The key `k`, with size 4 and `v` in the value (or address) slot, selects `i` at the default offsets, whatever the OPEN
parameters are: the "Encoding" line of a rule (R83 to R85). -/
def selectedBy (i : Instr) (k : Key) (v : Word) : Prop :=
  ∀ (o : PlatformParams) (b : Word),
    decode (Params.defaults o) { key := k, size := 4, opA := v, opB := b } = .ok i

/-- The state of R107's machine: (TX_COMPLETE, IE, irq_level). -/
structure UartMachine where
  txComplete : Bool
  ie         : Bool
  irq        : Bool
  deriving DecidableEq, Repr

/-- What R107 reads of a state: TX_COMPLETE is `status[0]`, IE is `interrupt_enabled`. -/
def uartMachine (s : State) : UartMachine where
  txComplete := txComplete s.uart.status
  ie         := s.uart.interruptEnabled
  irq        := s.uart.irqLevel

/-- R107's table, row by row, with the outputs in the observation: where the machine goes and what it puts out. The last row
is the table's "any read, WR BAUD, invalid write", and the transactions of the other devices (R73). -/
def uartMachineNext (m : UartMachine) : Instr → UartMachine × List Event
  | .wrUartCtrl v   => ({ m with ie := v.getLsbD 1 }, [])
  | .wrUartData v   =>
    if m.ie then ({ m with txComplete := true, irq := true }, [.emit (v.extractLsb' 0 8), .irqAssert .uart])
    else ({ m with txComplete := true }, [.emit (v.extractLsb' 0 8)])
  | .wrUartStatus _ => ({ m with txComplete := false, irq := false }, [.irqDeassert .uart])
  | _               => (m, [])

/-- The events of the UART: its byte sink and its interrupt line. -/
def Event.ofUart : Event → Bool
  | .emit _        => true
  | .irqAssert d   => decide (d = .uart)
  | .irqDeassert d => decide (d = .uart)
  | .log _ _       => false

/-- The state of R126's machine: (stored TX_READY, RX_READY, LOOPBACK, irq_level). -/
structure CanMachine where
  txReady  : Bool
  rxReady  : Bool
  loopback : Bool
  irq      : Bool
  deriving DecidableEq, Repr

/-- What R126 reads of a state. -/
def canMachine (s : State) : CanMachine where
  txReady  := txReady s.can.status
  rxReady  := rxReady s.can.status
  loopback := loopback s.can.ctrl
  irq      := s.can.irqLevel

/-- R126's table, row by row, with the outputs in the observation. The last row is the table's "any read, WR MCR, WR RXBUF, WR IRQ,
invalid", and the transactions of the other devices (R73). -/
def canMachineNext (m : CanMachine) : Instr → CanMachine × List Event
  | .wrCanCtrl v   => ({ m with loopback := v.getLsbD 2 }, [])
  | .wrCanTxbuf _  =>
    if m.loopback then ({ m with txReady := true, rxReady := true, irq := true }, [.irqAssert .can])
    else ({ m with txReady := true, irq := true }, [.irqAssert .can])
  | .wrCanStatus v => ({ m with txReady := v.getLsbD 0, rxReady := v.getLsbD 1 }, [])
  | _              => (m, [])

/-- The events of the CAN controller: its interrupt line. -/
def Event.ofCan : Event → Bool
  | .emit _        => false
  | .irqAssert d   => decide (d = .can)
  | .irqDeassert d => decide (d = .can)
  | .log _ _       => false

/-- From `s`, the read `r` right after the write `w` returns `x` (R66). -/
def readsBack (w r : Instr) (x : Word) (s : State) : Prop :=
  ∃ t, runInstrs [w, r] s = .next t ∧ t.replies = s.replies ++ [.data x]

/-- EAR and EDR after a transaction (R36, R37): only their own writes, a denied gated read and a recording denied check
write them. -/
def faultRecordAfter (s : State) : Instr → Word × Word
  | .wrMpuEar v     => (v, s.mpu.edr)
  | .wrMpuEdr v     => (s.mpu.ear, v)
  | .rdMpuGated off =>
    if allowed s.params s.mpu (off.zeroExtend 32) s.params.permRead then (s.mpu.ear, s.mpu.edr)
    else (off.zeroExtend 32, 0x0000DEAD#32)
  | .chk a req      =>
    if !allowed s.params s.mpu a req && s.params.mpuCheckRecords then (a, 0x0000DEAD#32)
    else (s.mpu.ear, s.mpu.edr)
  | _               => (s.mpu.ear, s.mpu.edr)

/-- The state an outcome holds, for tests. -/
def nextState : Host.Outcome State Fault Refusal → Option State
  | .next s    => some s
  | .fault _   => none
  | .refused _ => none

end Sys2Proof.Machine
end

