-- ==== Sys2Proof/Certificates/Slice0/Obligations.lean ====
section
/-! DEFINITION. The statements for the provers. No statement is about log records, since the observation drops them (D22, R160,
log 6): `completesAs` and `observed` leave them out. -/

open Sys2Proof Sys2Proof.Machine

/-- R44 to R46, for every parameter record: the registers, latches and lines at creation. The line levels' 0 is the spec's
decision D12 (log 7). The machine's own reset state is such a state. -/
def Obligations.CreationState : Prop :=
  (∀ p : Params,
    (State.resetWith p).uart =
      { baudRate := 0#32, control := 0#32, status := 1#32, data := 0#32,
        interruptEnabled := false, irqLevel := false } ∧
    (State.resetWith p).can =
      { mcr := 0#32, ctrl := 0#32, status := 1#32, txBuf := 0#32, rxBuf := 0#32, irqReg := 0#32,
        irqLevel := false } ∧
    (State.resetWith p).mpu =
      { cesr := 1#32, ear := 0#32, edr := 0#32, region0 := { base := 0#32, attr := 0#32 },
        region1 := { base := 0#32, attr := 0#32 }, irqLevel := false }) ∧
  ∃ o : PlatformParams, State.reset = State.resetWith (Params.defaults o)

/-- R48 to R52 hold at creation, for every record; and the decided defaults are a well-formed record over every placement of the
windows that does not overlap (R9, R54; that the admitted sizes are fixed is log 3). -/
def Obligations.CreationIsLaunchable : Prop :=
  (∀ p : Params, (State.resetWith p).Legal) ∧
  ∀ o : PlatformParams, windowsApart o.baseUart o.baseCan → windowsApart o.baseUart o.baseMpu →
    windowsApart o.baseCan o.baseMpu → launchable (State.resetWith (Params.defaults o))

/-- R48 to R52, the spec's own invariants, as one inductive invariant: every step keeps them, for every parameter record. -/
def Obligations.StepKeepsLegalState : Prop :=
  ∀ s t : State, s.Legal → step s = .next t → t.Legal

/-- R76, R82 to R85: under every well-formed record, decoding an encoded well-formed instruction gives it back, for every
instruction and every operand value. That a well-formed record admits size 4 alone, so that every encoding is admitted, is the
model's reading of R59 and D7 (log 3, DEDUCED). -/
def Obligations.DecodeEncodeRoundTrip : Prop :=
  ∀ (p : Params) (i : Instr), p.WF → i.wellFormed p = true → decode p (encode p i) = .ok i

/-- R76, R82: what the decoder accepts is well formed, and encoding it again gives the request's key and operands. That an accepted
bus access has size 4, and so that an accepted fallback offset fits a 4-byte access, is the model's choice: it follows from the
premise that a well-formed record admits size 4 alone, the model's reading of R59 and D7 (log 3, DEDUCED). -/
def Obligations.DecodedRequestReencodes : Prop :=
  ∀ (p : Params) (r : Request) (i : Instr), p.WF → decode p r = .ok i →
    i.wellFormed p = true ∧ (encode p i).key = r.key ∧
    (i.isWrite = true → (encode p i).opA = r.opA) ∧
    (i.isCheck = true → (encode p i).opA = r.opA ∧ (encode p i).opB = r.opB) ∧
    (i.isCheck = false → r.size = 4)

/-- R57, R79, R89: exactly which requests the decoder refuses. Unit 11 is the check port (R77). -/
def Obligations.DecoderRefusesExactly : Prop :=
  ∀ (p : Params) (r : Request),
    (∃ why, decode p r = .error why) ↔
      (r.key.getLsbD 12 = true ∨
        (r.key.extractLsb' 14 2 = 3#2 ∧ (r.key.getLsbD 13 = true ∨ r.key.extractLsb' 0 12 ≠ 0#12)) ∨
        (r.key.extractLsb' 14 2 ≠ 3#2 ∧
          (r.size ∉ p.admittedSizes ∨ (r.key.extractLsb' 0 12).toNat + r.size > 0x1000)))

/-- Sanity of the decoder: keys written out bit by bit from R76, one or more of each family. -/
def Obligations.WrittenKeysDecode : Prop :=
  ∀ v : Word,
    selectedBy .rdUartStatus 0b0000000000001000#16 v ∧
    selectedBy (.wrUartData v) 0b0010000000001100#16 v ∧
    selectedBy (.rdUartInvalid 0x001#12) 0b0000000000000001#16 v ∧
    selectedBy (.wrCanTxbuf v) 0b0110000000001100#16 v ∧
    selectedBy .rdCanIrq 0b0100000000010100#16 v ∧
    selectedBy (.wrCanInvalid 0x00E#12 v) 0b0110000000001110#16 v ∧
    selectedBy .rdMpuRgn1Attr 0b1000000000011000#16 v ∧
    selectedBy (.wrMpuRgn0Base v) 0b1010000000001100#16 v ∧
    selectedBy (.rdMpuGated 0x01C#12) 0b1000000000011100#16 v ∧
    ∀ b : Word, decode Params.atReset { key := 0b1100000000000000#16, size := 4, opA := v, opB := b } =
      .ok (.chk v b)

/-- R65, R66: a step performs the transaction at the head of the platform's schedule, on the state with that transaction taken
off the schedule; around exec there is only admission. The schedule is the model's (log 4), and so is admission before every
transaction (log 9). -/
def Obligations.StepRunsDecodedTransaction : Prop :=
  ∀ (s : State) (r : Request) (rest : List Request) (i : Instr),
    s.schedule = r :: rest → launchable s → decode s.params r = .ok i →
    hasDevice s.created i.device = true → step s = exec i { s with schedule := rest }

/-- R57, R154, R158, R179: a step answers a next state exactly when a transaction is scheduled and admitted. That the record and the
launch premises are asked for before every transaction is the model's choice (log 9, DESIGN CHOICE; the spec refuses a start
state), that a record with other sizes is refused is the model's reading of R59 and D7 (log 3, DEDUCED), that the schedule stands in
State is log 4, and the created devices log 10. -/
def Obligations.StepAnswersNextExactlyWhenAdmitted : Prop :=
  ∀ s : State, (∃ t, step s = .next t) ↔
    ∃ r rest i, s.schedule = r :: rest ∧ launchable s ∧ decode s.params r = .ok i ∧
      hasDevice s.created i.device = true

/-- R188, R158: the only stop that is no refusal is the end of the run, when the platform has no further transaction. That it is a
fault of the model's step is the model's choice (log 4). -/
def Obligations.StepFaultsExactlyAtEndOfRun : Prop :=
  ∀ s : State, (∃ f, step s = .fault f) ↔ s.schedule = []

/-- R9, R54, R52, R154, R57, R179: which refusal each unadmitted transaction meets. That the record and the launch premises are
checked before every transaction, and in this order, is the model's choice (log 9, DESIGN CHOICE); that a record with other sizes
is refused is the model's reading of R59 and D7 (log 3, DEDUCED); the schedule is log 4, the created devices log 10. -/
def Obligations.RefusalsByName : Prop :=
  ∀ (s : State) (r : Request) (rest : List Request), s.schedule = r :: rest →
    (¬ s.params.WF → step s = .refused .illFormedParameters) ∧
    (s.params.WF → ¬ s.Legal → step s = .refused .illegalStartState) ∧
    (launchable s → ∀ why, decode s.params r = .error why → step s = .refused (.notAdmitted why)) ∧
    (launchable s → ∀ i, decode s.params r = .ok i → hasDevice s.created i.device = false →
      step s = .refused (.deviceNotCreated i.device))

/-- R158: every transaction completes; a read returns data, a check an answer, a write nothing (R78); the parameters, the instances
and the schedule are untouched; a refused transaction has no next state. -/
def Obligations.EveryTransactionCompletes : Prop :=
  (∀ (i : Instr) (s : State), ∃ t, exec i s = .next t ∧ sameSetup s t ∧
    (i.isWrite = true → t.replies = s.replies) ∧
    (i.isCheck = true → ∃ b, t.replies = s.replies ++ [.verdict b]) ∧
    (i.isWrite = false → i.isCheck = false → ∃ v, t.replies = s.replies ++ [.data v])) ∧
  ∀ (s : State) (r : Request) (rest : List Request) (why : Refusal),
    s.schedule = r :: rest → acceptRequest s r = .error why → step s = .refused why

/-- R96, R97, R98: the BAUD, CTRL and STATUS reads return the stored register and change nothing; BAUD and CTRL read back whole
what was last written; STATUS reads 1 at reset and in CLEAR mode only 0 or 1 (in a legal state, R49). -/
def Obligations.UartPlainReads : Prop :=
  ∀ (s : State) (v : Word),
    selectedBy .rdUartBaud 0x0000#16 v ∧
    completesAs .rdUartBaud s { s with replies := s.replies ++ [.data s.uart.baudRate] } ∧
    selectedBy .rdUartCtrl 0x0004#16 v ∧
    completesAs .rdUartCtrl s { s with replies := s.replies ++ [.data s.uart.control] } ∧
    selectedBy .rdUartStatus 0x0008#16 v ∧
    completesAs .rdUartStatus s { s with replies := s.replies ++ [.data s.uart.status] } ∧
    readsBack (.wrUartBaud v) .rdUartBaud v s ∧ readsBack (.wrUartCtrl v) .rdUartCtrl v s ∧
    (∀ p : Params, ∃ t, exec .rdUartStatus (State.resetWith p) = .next t ∧ t.replies = [.data 1#32]) ∧
    (s.Legal → s.params.uartStatusWriteMode = .clear →
      ∃ t x, exec .rdUartStatus s = .next t ∧ t.replies = s.replies ++ [.data x] ∧ (x = 0#32 ∨ x = 1#32))

/-- R99: the DATA read returns all 32 bits as last written. That the register holds 32 bits is the spec's decision D21. -/
def Obligations.UartDataReadBack : Prop :=
  ∀ s : State, completesAs .rdUartData s { s with replies := s.replies ++ [.data s.uart.data] }

/-- R101, R102: the BAUD write stores v; the CTRL write stores v and recomputes the interrupt enable; neither puts anything out. -/
def Obligations.UartBaudAndCtrlWrites : Prop :=
  ∀ (s : State) (v : Word),
    selectedBy (.wrUartBaud v) 0x2000#16 v ∧
    completesAs (.wrUartBaud v) s { s with uart := { s.uart with baudRate := v } } ∧
    selectedBy (.wrUartCtrl v) 0x2004#16 v ∧
    completesAs (.wrUartCtrl v) s
      { s with uart := { s.uart with control := v, interruptEnabled := v.getLsbD 1 } }

/-- R103: the STATUS write in each of its four variants. The variants are the spec's decisions D10 and D13. -/
def Obligations.UartStatusWriteModes : Prop :=
  ∀ (s : State) (v x : Word),
    (s.params.uartStatusWriteMode = .clear → x = s.uart.status &&& 0xFFFFFFFE#32) →
    (s.params.uartStatusWriteMode = .verbatim → x = v) →
    (s.params.uartStatusWriteLowersIrq = true →
      completesAs (.wrUartStatus v) s
        { s with uart := { s.uart with status := x, irqLevel := false },
                 out := s.out ++ [.irqDeassert .uart] }) ∧
    (s.params.uartStatusWriteLowersIrq = false →
      completesAs (.wrUartStatus v) s { s with uart := { s.uart with status := x } })

/-- R104: the DATA write stores v, emits its low byte, sets TX_COMPLETE, and asserts the line when the interrupt is enabled. That each
assertion is an event even when the level does not change is the spec's decision D12. -/
def Obligations.UartDataWriteTransmits : Prop :=
  ∀ (s : State) (v : Word),
    (s.uart.interruptEnabled = true →
      completesAs (.wrUartData v) s
        { s with uart := { s.uart with data := v, status := s.uart.status ||| 1#32, irqLevel := true },
                 out := s.out ++ [.emit (v.extractLsb' 0 8), .irqAssert .uart] }) ∧
    (s.uart.interruptEnabled = false →
      completesAs (.wrUartData v) s
        { s with uart := { s.uart with data := v, status := s.uart.status ||| 1#32 },
                 out := s.out ++ [.emit (v.extractLsb' 0 8)] })

/-- R106: the events leave in the order emission, then assertion, and the next transaction sees data, status and line updated. -/
def Obligations.UartDataWriteOrder : Prop :=
  ∀ (s : State) (v : Word), ∃ t, exec (.wrUartData v) s = .next t ∧
    (s.uart.interruptEnabled = true →
      observed t.out = observed s.out ++ [.emit (v.extractLsb' 0 8), .irqAssert .uart]) ∧
    (s.uart.interruptEnabled = false → observed t.out = observed s.out ++ [.emit (v.extractLsb' 0 8)]) ∧
    (∃ u, exec .rdUartData t = .next u ∧ u.replies = t.replies ++ [.data v]) ∧
    (∃ u, exec .rdUartStatus t = .next u ∧ u.replies = t.replies ++ [.data (s.uart.status ||| 1#32)]) ∧
    t.uart.irqLevel = (s.uart.irqLevel || s.uart.interruptEnabled)

/-- R100, R105, R88: a UART access at an unmapped offset completes, a read with 0, and changes no state and nothing observed. -/
def Obligations.UartInvalidAccesses : Prop :=
  ∀ (s : State) (off : Offset) (v : Word),
    (∃ t, exec (.rdUartInvalid off) s = .next t ∧ sameDevices s t ∧ sameSetup s t ∧
      t.replies = s.replies ++ [.data 0#32] ∧ observed t.out = observed s.out) ∧
    (∃ t, exec (.wrUartInvalid off v) s = .next t ∧ sameDevices s t ∧ sameSetup s t ∧
      t.replies = s.replies ∧ observed t.out = observed s.out)

/-- R108: in a legal state (R48) a transaction puts out a UART assertion if and only if it is a DATA write and CTRL bit 1 was set
before; and with `P_UART_STATUS_WRITE_LOWERS_IRQ` false an asserted line stays asserted. -/
def Obligations.UartInterruptGating : Prop :=
  ∀ (i : Instr) (s t : State), s.Legal → exec i s = .next t →
    (∃ l, t.out = s.out ++ l ∧
      (Event.irqAssert .uart ∈ l ↔ s.uart.control.getLsbD 1 = true ∧ ∃ v, i = .wrUartData v)) ∧
    (s.params.uartStatusWriteLowersIrq = false → s.uart.irqLevel = true → t.uart.irqLevel = true)

/-- R109: a DATA write emits its byte exactly once, and a STATUS read after it shows TX_COMPLETE set, over any transactions between
them but a STATUS write. -/
def Obligations.UartTransmitRoundTrip : Prop :=
  ∀ (s : State) (v : Word) (between : List Instr), (∀ w : Word, .wrUartStatus w ∉ between) →
    ∃ t u w x, exec (.wrUartData v) s = .next t ∧
      (∃ l, observed t.out = observed s.out ++ .emit (v.extractLsb' 0 8) :: l ∧ ∀ b : Byte, .emit b ∉ l) ∧
      runInstrs between t = .next u ∧ exec .rdUartStatus u = .next w ∧
      w.replies = u.replies ++ [.data x] ∧ x.getLsbD 0 = true

/-- R110, with the transactions between spelled out: in CLEAR mode, after a STATUS write of any value, STATUS reads show
bit 0 clear until a DATA write. -/
def Obligations.UartStatusStaysClear : Prop :=
  ∀ (s : State) (v : Word) (between : List Instr), s.params.uartStatusWriteMode = .clear →
    (∀ w : Word, .wrUartData w ∉ between) →
    ∃ t u x, runInstrs (.wrUartStatus v :: between) s = .next t ∧ exec .rdUartStatus t = .next u ∧
      u.replies = t.replies ++ [.data x] ∧ x.getLsbD 0 = false

/-- R107: under the default parameters the UART refines the spec's state machine, every transaction of the block included. The table is
the spec's derivation; it is written out in Safety.lean (`uartMachineNext`). -/
def Obligations.UartFollowsStateMachine : Prop :=
  (∀ p : Params, uartMachine (State.resetWith p) = { txComplete := true, ie := false, irq := false }) ∧
  ∀ (i : Instr) (s t : State), s.params.uartStatusWriteMode = .clear →
    s.params.uartStatusWriteLowersIrq = true → exec i s = .next t →
    uartMachine t = (uartMachineNext (uartMachine s) i).1 ∧
    t.out.filter Event.ofUart = s.out.filter Event.ofUart ++ (uartMachineNext (uartMachine s) i).2

/-- R111, R112, R114, R115: the MCR, CTRL, TXBUF and RXBUF reads return the stored register and change nothing; MCR, CTRL and
TXBUF read back what was last written, and 0 from reset. -/
def Obligations.CanPlainReads : Prop :=
  ∀ (s : State) (v : Word),
    selectedBy .rdCanMcr 0x4000#16 v ∧
    completesAs .rdCanMcr s { s with replies := s.replies ++ [.data s.can.mcr] } ∧
    selectedBy .rdCanCtrl 0x4004#16 v ∧
    completesAs .rdCanCtrl s { s with replies := s.replies ++ [.data s.can.ctrl] } ∧
    selectedBy .rdCanTxbuf 0x400C#16 v ∧
    completesAs .rdCanTxbuf s { s with replies := s.replies ++ [.data s.can.txBuf] } ∧
    selectedBy .rdCanRxbuf 0x4010#16 v ∧
    completesAs .rdCanRxbuf s { s with replies := s.replies ++ [.data s.can.rxBuf] } ∧
    readsBack (.wrCanMcr v) .rdCanMcr v s ∧ readsBack (.wrCanCtrl v) .rdCanCtrl v s ∧
    readsBack (.wrCanTxbuf v) .rdCanTxbuf v s ∧
    ∀ (p : Params) (i : Instr), i = .rdCanMcr ∨ i = .rdCanCtrl ∨ i = .rdCanTxbuf ∨ i = .rdCanRxbuf →
      ∃ t, exec i (State.resetWith p) = .next t ∧ t.replies = [.data 0#32]

/-- R113, R116: the STATUS read in both modes, the stored status unchanged, and the IRQ read. The modes are the spec's decision D11, the
IRQ register's independence of the line D15. -/
def Obligations.CanStatusAndIrqReads : Prop :=
  ∀ s : State,
    (s.params.canStatusReadMode = .forceTxReady →
      completesAs .rdCanStatus s { s with replies := s.replies ++ [.data (s.can.status ||| 1#32)] }) ∧
    (s.params.canStatusReadMode = .stored →
      completesAs .rdCanStatus s { s with replies := s.replies ++ [.data s.can.status] }) ∧
    completesAs .rdCanIrq s { s with replies := s.replies ++ [.data s.can.irqReg] }

/-- R119, R123: the CTRL and RXBUF writes store v and do nothing else: no loopback copy, no RX_READY; bit 2 of the CTRL value
selects loopback for the TXBUF write that follows, and such a write overwrites a stored RXBUF. -/
def Obligations.CanCtrlAndRxbufWrites : Prop :=
  ∀ (s : State) (v w : Word),
    selectedBy (.wrCanCtrl v) 0x6004#16 v ∧
    completesAs (.wrCanCtrl v) s { s with can := { s.can with ctrl := v } } ∧
    selectedBy (.wrCanRxbuf v) 0x6010#16 v ∧
    completesAs (.wrCanRxbuf v) s { s with can := { s.can with rxBuf := v } } ∧
    (∃ t, runInstrs [.wrCanCtrl v, .wrCanTxbuf w] s = .next t ∧
      t.can.rxBuf = if v.getLsbD 2 then w else s.can.rxBuf) ∧
    readsBack (.wrCanRxbuf v) .rdCanRxbuf v s ∧
    ∃ t, runInstrs [.wrCanRxbuf v, .wrCanTxbuf w] s = .next t ∧
      t.can.rxBuf = if s.can.ctrl.getLsbD 2 then w else v

/-- R118, R120: the MCR write, and the STATUS write with and without the deassertion. That MCR has no effect is the spec's
decision D31, and the deassertion D14. -/
def Obligations.CanMcrAndStatusWrites : Prop :=
  ∀ (s : State) (v : Word),
    completesAs (.wrCanMcr v) s { s with can := { s.can with mcr := v } } ∧
    (s.params.canStatusWriteLowersIrq = true →
      completesAs (.wrCanStatus v) s
        { s with can := { s.can with status := v, irqLevel := false },
                 out := s.out ++ [.irqDeassert .can] }) ∧
    (s.params.canStatusWriteLowersIrq = false →
      completesAs (.wrCanStatus v) s { s with can := { s.can with status := v } })

/-- R121, R122: the TXBUF write loads the mailbox, sets TX_READY, mirrors and sets RX_READY in loopback, and asserts the line
unconditionally, its one event. -/
def Obligations.CanTxbufWrite : Prop :=
  ∀ (s : State) (v : Word),
    selectedBy (.wrCanTxbuf v) 0x600C#16 v ∧
    (s.can.ctrl.getLsbD 2 = true →
      completesAs (.wrCanTxbuf v) s
        { s with can := { s.can with txBuf := v, rxBuf := v, status := s.can.status ||| 3#32,
                                     irqLevel := true },
                 out := s.out ++ [.irqAssert .can] }) ∧
    (s.can.ctrl.getLsbD 2 = false →
      completesAs (.wrCanTxbuf v) s
        { s with can := { s.can with txBuf := v, status := s.can.status ||| 1#32, irqLevel := true },
                 out := s.out ++ [.irqAssert .can] })

/-- R124: the IRQ write in both variants; both are the spec's decision D15. Ignored, it changes no state and nothing observed. -/
def Obligations.CanIrqWriteModes : Prop :=
  ∀ (s : State) (v : Word),
    (s.params.canIrqWrite = .store →
      completesAs (.wrCanIrq v) s { s with can := { s.can with irqReg := v } }) ∧
    (s.params.canIrqWrite = .ignore →
      ∃ t, exec (.wrCanIrq v) s = .next t ∧ sameDevices s t ∧ sameSetup s t ∧ t.replies = s.replies ∧
        observed t.out = observed s.out)

/-- R117, R125, R88: a CAN access at an unmapped offset completes, a read with 0, and changes no state and nothing observed. -/
def Obligations.CanInvalidAccesses : Prop :=
  ∀ (s : State) (off : Offset) (v : Word),
    (∃ t, exec (.rdCanInvalid off) s = .next t ∧ sameDevices s t ∧ sameSetup s t ∧
      t.replies = s.replies ++ [.data 0#32] ∧ observed t.out = observed s.out) ∧
    (∃ t, exec (.wrCanInvalid off v) s = .next t ∧ sameDevices s t ∧ sameSetup s t ∧
      t.replies = s.replies ∧ observed t.out = observed s.out)

/-- R127: with loopback a TXBUF write is read back from RXBUF with both flags shown; without it RXBUF keeps its prior value. -/
def Obligations.CanLoopback : Prop :=
  ∀ (s : State) (v : Word), ∃ t u w x y, exec (.wrCanTxbuf v) s = .next t ∧
    exec .rdCanRxbuf t = .next u ∧ u.replies = t.replies ++ [.data x] ∧
    exec .rdCanStatus u = .next w ∧ w.replies = u.replies ++ [.data y] ∧
    (s.can.ctrl.getLsbD 2 = true → x = v ∧ y.getLsbD 0 = true ∧ y.getLsbD 1 = true) ∧
    (s.can.ctrl.getLsbD 2 = false → x = s.can.rxBuf)

/-- R126: under the defaults the CAN controller refines the spec's state machine, every transaction of the block included. The table is the
spec's derivation; it is written out in Safety.lean (`canMachineNext`). -/
def Obligations.CanFollowsStateMachine : Prop :=
  (∀ p : Params, canMachine (State.resetWith p) =
    { txReady := true, rxReady := false, loopback := false, irq := false }) ∧
  ∀ (i : Instr) (s t : State), s.params.canStatusWriteLowersIrq = false → exec i s = .next t →
    canMachine t = (canMachineNext (canMachine s) i).1 ∧
    t.out.filter Event.ofCan = s.out.filter Event.ofCan ++ (canMachineNext (canMachine s) i).2

/-- R163: a TXBUF write drives the line to 1, and with `P_CAN_STATUS_WRITE_LOWERS_IRQ` false no sequence of transactions drives it to 0
again. The parameter and its default are the spec's decision D14. -/
def Obligations.CanLineStaysAsserted : Prop :=
  ∀ (s : State) (v : Word) (after : List Instr), s.params.canStatusWriteLowersIrq = false →
    ∃ t, runInstrs (.wrCanTxbuf v :: after) s = .next t ∧ t.can.irqLevel = true

/-- R130 to R136: every configuration read returns the stored register, with no check, in every state, and changes nothing; in a
legal state (R50, R51) bit 0 of CESR reads 1 and the bits a descriptor never stores read 0. EDR reads 0 at reset. -/
def Obligations.MpuConfigurationReads : Prop :=
  ∀ (s : State) (v : Word),
    selectedBy .rdMpuCesr 0x8000#16 v ∧
    completesAs .rdMpuCesr s { s with replies := s.replies ++ [.data s.mpu.cesr] } ∧
    selectedBy .rdMpuEar 0x8004#16 v ∧
    completesAs .rdMpuEar s { s with replies := s.replies ++ [.data s.mpu.ear] } ∧
    selectedBy .rdMpuEdr 0x8008#16 v ∧
    completesAs .rdMpuEdr s { s with replies := s.replies ++ [.data s.mpu.edr] } ∧
    selectedBy .rdMpuRgn0Base 0x800C#16 v ∧
    completesAs .rdMpuRgn0Base s { s with replies := s.replies ++ [.data s.mpu.region0.base] } ∧
    selectedBy .rdMpuRgn0Attr 0x8010#16 v ∧
    completesAs .rdMpuRgn0Attr s { s with replies := s.replies ++ [.data s.mpu.region0.attr] } ∧
    selectedBy .rdMpuRgn1Base 0x8014#16 v ∧
    completesAs .rdMpuRgn1Base s { s with replies := s.replies ++ [.data s.mpu.region1.base] } ∧
    selectedBy .rdMpuRgn1Attr 0x8018#16 v ∧
    completesAs .rdMpuRgn1Attr s { s with replies := s.replies ++ [.data s.mpu.region1.attr] } ∧
    (∀ p : Params, ∃ t, exec .rdMpuEdr (State.resetWith p) = .next t ∧ t.replies = [.data 0#32]) ∧
    (s.Legal →
      (∃ t x, exec .rdMpuCesr s = .next t ∧ t.replies = s.replies ++ [.data x] ∧ x.getLsbD 0 = true) ∧
      (∀ i : Instr, i = .rdMpuRgn0Base ∨ i = .rdMpuRgn1Base →
        ∃ t x, exec i s = .next t ∧ t.replies = s.replies ++ [.data x] ∧ x &&& 0x0000000F#32 = 0#32) ∧
      ∀ i : Instr, i = .rdMpuRgn0Attr ∨ i = .rdMpuRgn1Attr →
        ∃ t x, exec i s = .next t ∧ t.replies = s.replies ++ [.data x] ∧ x &&& 0xFFFFFFF0#32 = 0#32)

/-- R145, R148 to R151: the CESR write forces the enable bit, the base writes mask to 16-byte alignment, the attribute writes keep the
low 4 bits; each in every state, and nothing else changes. A new base counts for the very next check; attribute 0 denies every
address of its region for every request. -/
def Obligations.MpuConfigurationWrites : Prop :=
  ∀ (s : State) (v a req : Word),
    selectedBy (.wrMpuCesr v) 0xA000#16 v ∧
    completesAs (.wrMpuCesr v) s { s with mpu := { s.mpu with cesr := v ||| 0x00000001#32 } } ∧
    selectedBy (.wrMpuRgn0Base v) 0xA00C#16 v ∧
    completesAs (.wrMpuRgn0Base v) s { s with mpu := { s.mpu with
      region0 := { base := v &&& 0xFFFFFFF0#32, attr := s.mpu.region0.attr } } } ∧
    selectedBy (.wrMpuRgn0Attr v) 0xA010#16 v ∧
    completesAs (.wrMpuRgn0Attr v) s { s with mpu := { s.mpu with
      region0 := { base := s.mpu.region0.base, attr := v &&& 0x0000000F#32 } } } ∧
    selectedBy (.wrMpuRgn1Base v) 0xA014#16 v ∧
    completesAs (.wrMpuRgn1Base v) s { s with mpu := { s.mpu with
      region1 := { base := v &&& 0xFFFFFFF0#32, attr := s.mpu.region1.attr } } } ∧
    selectedBy (.wrMpuRgn1Attr v) 0xA018#16 v ∧
    completesAs (.wrMpuRgn1Attr v) s { s with mpu := { s.mpu with
      region1 := { base := s.mpu.region1.base, attr := v &&& 0x0000000F#32 } } } ∧
    (∃ t, runInstrs [.wrMpuRgn0Base v, .chk a req] s = .next t ∧
      t.replies = s.replies ++ [.verdict (allowed s.params { s.mpu with
        region0 := { base := v &&& 0xFFFFFFF0#32, attr := s.mpu.region0.attr } } a req)]) ∧
    (∃ t, runInstrs [.wrMpuRgn1Base v, .chk a req] s = .next t ∧
      t.replies = s.replies ++ [.verdict (allowed s.params { s.mpu with
        region1 := { base := v &&& 0xFFFFFFF0#32, attr := s.mpu.region1.attr } } a req)]) ∧
    (inRegion s.params a s.mpu.region0.base = true →
      ∃ t, runInstrs [.wrMpuRgn0Attr 0#32, .chk a req] s = .next t ∧
        t.replies = s.replies ++ [.verdict false]) ∧
    (inRegion s.params a s.mpu.region1.base = true →
      ∃ t, runInstrs [.wrMpuRgn1Attr 0#32, .chk a req] s = .next t ∧
        t.replies = s.replies ++ [.verdict false])

/-- R146, R147: the EAR and EDR writes store v. The verbatim store is the spec's decision D18. -/
def Obligations.MpuFaultRegisterWrites : Prop :=
  ∀ (s : State) (v : Word),
    completesAs (.wrMpuEar v) s { s with mpu := { s.mpu with ear := v } } ∧
    completesAs (.wrMpuEdr v) s { s with mpu := { s.mpu with edr := v } }

/-- R142 to R144: the gated read completes with 0; denied, it records the offset and the marker and changes nothing else; allowed, it
changes no state (the allowed case is the spec's decision D16). What denies is spelled out from R138 and R139. It holds for either
region-end arithmetic (R140): an offset is below 0x1000, so a base that could match is too, and its end does not wrap. -/
def Obligations.MpuGatedRead : Prop :=
  ∀ (s : State) (off : Offset),
    ∃ t, exec (.rdMpuGated off) s = .next t ∧ sameSetup s t ∧ t.uart = s.uart ∧ t.can = s.can ∧
      t.replies = s.replies ++ [.data 0#32] ∧ observed t.out = observed s.out ∧
      ((∃ r, (r = s.mpu.region0 ∨ r = s.mpu.region1) ∧ r.base.toNat ≤ off.toNat ∧
          off.toNat < r.base.toNat + 0x1000 ∧ r.attr &&& s.params.permRead = 0#32) →
        t.mpu = { s.mpu with ear := off.zeroExtend 32, edr := 0x0000DEAD#32 }) ∧
      ((∀ r, (r = s.mpu.region0 ∨ r = s.mpu.region1) → r.base.toNat ≤ off.toNat →
          off.toNat < r.base.toNat + 0x1000 → r.attr &&& s.params.permRead ≠ 0#32) →
        t.mpu = s.mpu)

/-- R152: a write at a non-configuration offset completes and changes no state and nothing observed; no fault is recorded, whatever the
check would say. -/
def Obligations.MpuUnauthorizedWrite : Prop :=
  ∀ (s : State) (off : Offset) (v : Word),
    ∃ t, exec (.wrMpuUnauthorized off v) s = .next t ∧ sameDevices s t ∧ sameSetup s t ∧
      t.replies = s.replies ∧ observed t.out = observed s.out

/-- R153: the check port answers `Allowed(a, req)`, and records a denial only under `P_MPU_CHECK_RECORDS` (the spec's decision D17). -/
def Obligations.CheckPortAnswers : Prop :=
  ∀ (s : State) (a req : Word),
    (allowed s.params s.mpu a req = true →
      completesAs (.chk a req) s { s with replies := s.replies ++ [.verdict true] }) ∧
    (allowed s.params s.mpu a req = false → s.params.mpuCheckRecords = false →
      completesAs (.chk a req) s { s with replies := s.replies ++ [.verdict false] }) ∧
    (allowed s.params s.mpu a req = false → s.params.mpuCheckRecords = true →
      completesAs (.chk a req) s
        { s with mpu := { s.mpu with ear := a, edr := 0x0000DEAD#32 },
                       replies := s.replies ++ [.verdict false] })

/-- R138: access is allowed exactly when every region that matches the address (R139, by the end arithmetic of the record, R140)
shares a permission bit with the request; with the exact end (the default, D19) a match is spelled out; and the order of the two
regions does not matter (the spec's derivation). -/
def Obligations.AllowedIffEveryMatchGrants : Prop :=
  ∀ (p : Params) (m : Mpu) (a req : Word),
    (allowed p m a req = true ↔
      ∀ r, (r = m.region0 ∨ r = m.region1) → inRegion p a r.base = true → r.attr &&& req ≠ 0#32) ∧
    (p.regionEndWraps = false →
      (allowed p m a req = true ↔
        ∀ r, (r = m.region0 ∨ r = m.region1) → r.base.toNat ≤ a.toNat → a.toNat < r.base.toNat + 0x1000 →
          r.attr &&& req ≠ 0#32)) ∧
    allowed p { m with region0 := m.region1, region1 := m.region0 } a req = allowed p m a req

/-- R81, R138, R153: over masked descriptors (R51, the spec's derivation) only `req[3:0]` can affect the answer (the spec's decision
D29), and a request with none of these bits is denied inside every region. -/
def Obligations.OnlyLowRequestBitsCount : Prop :=
  ∀ (p : Params) (m : Mpu) (a req : Word), mpuLegal m →
    allowed p m a req = allowed p m a (req &&& 0x0000000F#32) ∧
    (req &&& 0x0000000F#32 = 0#32 →
      inRegion p a m.region0.base = true ∨ inRegion p a m.region1.base = true → allowed p m a req = false)

/-- R139: a region matches the addresses of `[b, b + 0x1000)` (the end exact, the default of R140); it starts on a 16-byte
boundary and need not be 0x1000-aligned: one at 0x10 covers 0x010 to 0x100F. -/
def Obligations.RegionMatchesItsInterval : Prop :=
  (∀ (p : Params) (a b : Word), p.regionEndWraps = false →
    (inRegion p a b = true ↔ b.toNat ≤ a.toNat ∧ a.toNat < b.toNat + 0x1000)) ∧
  (∀ r : Region, regionLegal r → r.base.toNat % 16 = 0) ∧
  (∀ (p : Params) (a : Word), p.regionEndWraps = false →
    (inRegion p a 0x10#32 = true ↔ 0x10 ≤ a.toNat ∧ a.toNat ≤ 0x100F)) ∧
  ∃ r : Region, regionLegal r ∧ r.base = 0x10#32

/-- R140: the end of a region near the top of the address space, by either arithmetic. The default is the spec's decision D19. -/
def Obligations.RegionEndAtTheTop : Prop :=
  ∀ (p : Params) (a b : Word),
    (p.regionEndWraps = true → 0xFFFFF000 ≤ b.toNat → inRegion p a b = false) ∧
    (p.regionEndWraps = true → b.toNat < 0xFFFFF000 →
      (inRegion p a b = true ↔ b.toNat ≤ a.toNat ∧ a.toNat < b.toNat + 0x1000)) ∧
    (p.regionEndWraps = false → 0xFFFFF000 ≤ b.toNat → (inRegion p a b = true ↔ b.toNat ≤ a.toNat))

/-- R155: both descriptors are (0, 0) at creation, and while they are, whatever the rest of the MPU holds, every check below 0x1000 is
denied and every other allowed, for every request; every non-configuration MPU read is denied and records its offset, a second
one over the first. -/
def Obligations.DefaultRegionDenial : Prop :=
  (∀ p : Params, (State.resetWith p).mpu.region0 = { base := 0#32, attr := 0#32 } ∧
    (State.resetWith p).mpu.region1 = { base := 0#32, attr := 0#32 }) ∧
  (∀ (p : Params) (m : Mpu) (a req : Word), m.region0 = { base := 0#32, attr := 0#32 } →
    m.region1 = { base := 0#32, attr := 0#32 } → allowed p m a req = decide (0x1000 ≤ a.toNat)) ∧
  ∀ (s : State) (off off' : Offset), s.mpu.region0 = { base := 0#32, attr := 0#32 } →
    s.mpu.region1 = { base := 0#32, attr := 0#32 } →
    completesAs (.rdMpuGated off) s
      { s with mpu := { s.mpu with ear := off.zeroExtend 32, edr := 0x0000DEAD#32 },
               replies := s.replies ++ [.data 0#32] } ∧
    ∃ t, runInstrs [.rdMpuGated off, .rdMpuGated off'] s = .next t ∧
      t.mpu = { s.mpu with ear := off'.zeroExtend 32, edr := 0x0000DEAD#32 } ∧
      t.replies = s.replies ++ [.data 0#32, .data 0#32]

/-- R156, for either region `g`, the other one `o` in any position: a region with attribute `PERM_READ` grants a READ at its base and
denies a WRITE there; the denied check records only under `P_MPU_CHECK_RECORDS` (D17). That the two permissions share no bit (true
of the defaults, D4) is a premise, and so is that a wrapping end (R140, not the default D19) leaves the base inside its region. -/
def Obligations.RegionGating : Prop :=
  ∀ (s : State) (g o : Region),
    (g = s.mpu.region0 ∧ o = s.mpu.region1) ∨ (g = s.mpu.region1 ∧ o = s.mpu.region0) →
    s.params.PermsValid → s.params.permRead &&& s.params.permWrite = 0#32 → g.attr = s.params.permRead →
    s.params.regionEndWraps = false ∨ g.base.toNat < 0xFFFFF000 →
    (inRegion s.params g.base o.base = true → o.attr &&& s.params.permRead ≠ 0#32) →
    completesAs (.chk g.base s.params.permRead) s { s with replies := s.replies ++ [.verdict true] } ∧
    (s.params.mpuCheckRecords = false →
      completesAs (.chk g.base s.params.permWrite) s { s with replies := s.replies ++ [.verdict false] }) ∧
    (s.params.mpuCheckRecords = true →
      completesAs (.chk g.base s.params.permWrite) s
        { s with mpu := { s.mpu with ear := g.base, edr := 0x0000DEAD#32 },
                 replies := s.replies ++ [.verdict false] })

/-- R154: creation enters ENABLED, every CESR write leaves the MPU ENABLED, and no transaction enters DISABLED. The last clause, that
step refuses every DISABLED state with a transaction scheduled, is the model's choice: R154 refuses a start state, the model checks
the launch premises before every transaction (log 9, DESIGN CHOICE) of its schedule (log 4). -/
def Obligations.MpuEnableIsOneWay : Prop :=
  (∀ p : Params, (State.resetWith p).mpu.cesr.getLsbD 0 = true) ∧
  (∀ (s : State) (v : Word), ∃ t, exec (.wrMpuCesr v) s = .next t ∧ t.mpu.cesr.getLsbD 0 = true) ∧
  (∀ (i : Instr) (s t : State), exec i s = .next t → s.mpu.cesr.getLsbD 0 = true →
    t.mpu.cesr.getLsbD 0 = true) ∧
  ∀ s : State, s.mpu.cesr.getLsbD 0 = false → s.schedule ≠ [] → ∃ why, step s = .refused why

/-- R62: the only read that changes device state is a denied MPU non-configuration read; and a repeated read returns the same value and
changes nothing. -/
def Obligations.OnlyDeniedReadChangesState : Prop :=
  ∀ (i : Instr) (s t u : State), i.isWrite = false → i.isCheck = false →
    exec i s = .next t → exec i t = .next u →
    (sameDevices s t ∨ ∃ off, i = .rdMpuGated off ∧
      allowed s.params s.mpu (off.zeroExtend 32) s.params.permRead = false) ∧
    sameDevices t u ∧ ∃ v, t.replies = s.replies ++ [.data v] ∧ u.replies = t.replies ++ [.data v]

/-- R74: two identical writes leave the device state of one. -/
def Obligations.RepeatedWriteKeepsState : Prop :=
  ∀ (i : Instr) (s t u : State), i.isWrite = true → exec i s = .next t → exec i t = .next u →
    sameDevices t u

/-- R73: no transaction of one device writes the state of another, nor reads it: what it does to its own device, what it answers and what
is observed of it are the same over any state of the others. The check port is the MPU's. -/
def Obligations.DevicesAreIndependent : Prop :=
  (∀ (i : Instr) (s t : State), exec i s = .next t → sameButDevice i.device s t) ∧
  ∀ (i : Instr) (s s' t t' : State), s.params = s'.params → sameDevice i.device s s' →
    exec i s = .next t → exec i s' = .next t' →
    sameDevice i.device t t' ∧
    (∃ rs, t.replies = s.replies ++ rs ∧ t'.replies = s'.replies ++ rs) ∧
    ∃ es, observed t.out = observed s.out ++ es ∧ observed t'.out = observed s'.out ++ es

/-- R54, R72, R165: the block never sees a window base, nor whether the platform gates: no transaction's effect depends on an OPEN
parameter. -/
def Obligations.OpenParametersAreInvisible : Prop :=
  ∀ (i : Instr) (s t : State) (o : PlatformParams), exec i s = .next t →
    completesAs i { s with params := { s.params with platform := o } }
      { t with params := { t.params with platform := o } }

/-- R164: the MPU line is never asserted: no transaction, a protection violation included, changes its level or puts out an event of it. -/
def Obligations.MpuLineNeverAsserted : Prop :=
  (∀ p : Params, (State.resetWith p).mpu.irqLevel = false) ∧
  ∀ (i : Instr) (s t : State), exec i s = .next t →
    t.mpu.irqLevel = s.mpu.irqLevel ∧
    ∃ l, t.out = s.out ++ l ∧ Event.irqAssert .mpu ∉ l ∧ Event.irqDeassert .mpu ∉ l

/-- R166, R63: a transaction appends to the output list, with at most one interrupt event, and no byte leaves after it. -/
def Obligations.AtMostOneInterruptEvent : Prop :=
  ∀ (i : Instr) (s t : State), exec i s = .next t →
    ∃ l, t.out = s.out ++ l ∧ (l.filter Event.isInterrupt).length ≤ 1 ∧
      ∀ (l₁ l₂ : List Event) (e : Event), l = l₁ ++ e :: l₂ → e.isInterrupt = true → ∀ b : Byte, .emit b ∉ l₂

/-- R36, R37: EAR and EDR hold 0 at creation, their reads return them, and these four transactions alone write them, with these
values: the register's own write, a denied gated read, and a denied check under `P_MPU_CHECK_RECORDS`. -/
def Obligations.FaultRecordWriters : Prop :=
  (∀ p : Params, (State.resetWith p).mpu.ear = 0#32 ∧ (State.resetWith p).mpu.edr = 0#32) ∧
  (∀ s : State,
    completesAs .rdMpuEar s { s with replies := s.replies ++ [.data s.mpu.ear] } ∧
    completesAs .rdMpuEdr s { s with replies := s.replies ++ [.data s.mpu.edr] }) ∧
  ∀ (i : Instr) (s t : State), exec i s = .next t → (t.mpu.ear, t.mpu.edr) = faultRecordAfter s i

/-- R22, R28, R33, R35, R141: the value of BAUD, MCR, the CAN IRQ register or CESR has no effect on any transaction but the
register's own read and write. MCR's is the spec's decision D31, the IRQ register's D15, the check's blindness to CESR D20. -/
def Obligations.InertRegisters : Prop :=
  ∀ (i : Instr) (s t : State) (x : Word), exec i s = .next t →
    (i ≠ .rdUartBaud → (∀ v : Word, i ≠ .wrUartBaud v) →
      completesAs i { s with uart := { s.uart with baudRate := x } }
        { t with uart := { t.uart with baudRate := x } }) ∧
    (i ≠ .rdCanMcr → (∀ v : Word, i ≠ .wrCanMcr v) →
      completesAs i { s with can := { s.can with mcr := x } } { t with can := { t.can with mcr := x } }) ∧
    (i ≠ .rdCanIrq → (∀ v : Word, i ≠ .wrCanIrq v) →
      completesAs i { s with can := { s.can with irqReg := x } } { t with can := { t.can with irqReg := x } }) ∧
    (i ≠ .rdMpuCesr → (∀ v : Word, i ≠ .wrMpuCesr v) →
      completesAs i { s with mpu := { s.mpu with cesr := x } } { t with mpu := { t.mpu with cesr := x } })

/-- R66, R86, R87: a read right after a write of the same register returns what the write rule stores of its value. UART STATUS, CAN
STATUS and CAN IRQ, whose rules have variants, have statements of their own. The verbatim stores of MCR, EAR and EDR and
the width of DATA are the spec's decisions D31, D18 and D21. -/
def Obligations.ReadBackAfterWrite : Prop :=
  ∀ (s : State) (v : Word) (w r : Instr) (x : Word),
    (w, r, x) ∈
      [(.wrUartBaud v, .rdUartBaud, v), (.wrUartCtrl v, .rdUartCtrl, v), (.wrUartData v, .rdUartData, v),
       (.wrCanMcr v, .rdCanMcr, v), (.wrCanCtrl v, .rdCanCtrl, v), (.wrCanTxbuf v, .rdCanTxbuf, v),
       (.wrCanRxbuf v, .rdCanRxbuf, v),
       (.wrMpuCesr v, .rdMpuCesr, v ||| 0x00000001#32), (.wrMpuEar v, .rdMpuEar, v),
       (.wrMpuEdr v, .rdMpuEdr, v),
       (.wrMpuRgn0Base v, .rdMpuRgn0Base, v &&& 0xFFFFFFF0#32),
       (.wrMpuRgn0Attr v, .rdMpuRgn0Attr, v &&& 0x0000000F#32),
       (.wrMpuRgn1Base v, .rdMpuRgn1Base, v &&& 0xFFFFFFF0#32),
       (.wrMpuRgn1Attr v, .rdMpuRgn1Attr, v &&& 0x0000000F#32)] →
    readsBack w r x s
end

