-- ==== Sys2Proof/Laws/Decode.lean ====
section
/-! SUPPORT. The fields of a key, of an encoded request, and what each decode table answers. -/

namespace Sys2Proof

/-- Each bit of a key comes from one field. -/
theorem getLsbD_mkKey (u : BitVec 2) (w : Bool) (off : Offset) (i : Nat) :
    (mkKey u w off).getLsbD i =
      if i < 12 then off.getLsbD i
      else if i = 12 then false
      else if i = 13 then w
      else u.getLsbD (i - 14) := by
  simp only [mkKey, BitVec.getLsbD_append]
  split
  · rfl
  · rename_i h
    obtain rfl | rfl | hi : i = 12 ∨ i = 13 ∨ 14 ≤ i := by omega
    · simp
    · simp
    · rw [if_neg (by omega), if_neg (by omega), if_neg (by omega), if_neg (by omega)]
      congr 1

@[simp] theorem keyOffset_mkKey (u : BitVec 2) (w : Bool) (off : Offset) : keyOffset (mkKey u w off) = off := by
  apply BitVec.eq_of_getLsbD_eq
  intro i hi
  simp only [keyOffset, BitVec.getLsbD_extractLsb', getLsbD_mkKey]
  simp [hi]

@[simp] theorem keyReserved_mkKey (u : BitVec 2) (w : Bool) (off : Offset) : keyReserved (mkKey u w off) = false := by
  simp only [keyReserved, getLsbD_mkKey]
  rfl

@[simp] theorem keyWrites_mkKey (u : BitVec 2) (w : Bool) (off : Offset) : keyWrites (mkKey u w off) = w := by
  simp only [keyWrites, getLsbD_mkKey]
  rfl

@[simp] theorem keyUnit_mkKey (u : BitVec 2) (w : Bool) (off : Offset) : keyUnit (mkKey u w off) = u := by
  apply BitVec.eq_of_getLsbD_eq
  intro i hi
  simp only [keyUnit, BitVec.getLsbD_extractLsb', getLsbD_mkKey]
  rw [if_neg (by omega), if_neg (by omega), if_neg (by omega)]
  simp [hi]

/-- A key is its fields (R76). -/
theorem mkKey_fields (k : Key) (h : keyReserved k = false) :
    mkKey (keyUnit k) (keyWrites k) (keyOffset k) = k := by
  apply BitVec.eq_of_getLsbD_eq
  intro i hi
  simp only [getLsbD_mkKey, keyUnit, keyOffset, keyWrites, BitVec.getLsbD_extractLsb']
  obtain h0 | rfl | rfl | h14 : i < 12 ∨ i = 12 ∨ i = 13 ∨ 14 ≤ i := by omega
  · simp [h0]
  · exact h.symm
  · rfl
  · rw [if_neg (by omega), if_neg (by omega), if_neg (by omega)]
    simp [show i - 14 < 2 by omega, show 14 + (i - 14) = i by omega]

@[simp] theorem windowOf_unitOf (d : Device) : windowOf (unitOf d) = some d := by
  cases d <;> rfl

/-- The unit code that names a window is that window's (R77). -/
theorem unitOf_of_windowOf {u : BitVec 2} {d : Device} (h : windowOf u = some d) : unitOf d = u := by
  revert h
  unfold windowOf
  split
  · rintro ⟨⟩; subst_vars; rfl
  split
  · rintro ⟨⟩; subst_vars; rfl
  split
  · rintro ⟨⟩; subst_vars; rfl
  · rintro ⟨⟩

/-- The only unit code without a window is the check port's, 11 (R77). -/
theorem windowOf_eq_none {u : BitVec 2} : windowOf u = none ↔ u = 3#2 := by
  revert u; decide

/-- What an accepted request was (R57, R89): a check with the port's key, or an admitted access to a window. -/
theorem decode_ok {p : Params} {r : Request} {i : Instr} (h : decode p r = .ok i) :
    keyReserved r.key = false ∧
    ((windowOf (keyUnit r.key) = none ∧ keyWrites r.key = false ∧ keyOffset r.key = 0#12 ∧
        i = .chk r.opA r.opB) ∨
      ∃ d, windowOf (keyUnit r.key) = some d ∧ r.size ∈ p.admittedSizes ∧
        (keyOffset r.key).toNat + r.size ≤ Config.windowSize ∧
        i = decodeAccess p d (keyWrites r.key) (keyOffset r.key) r.opA) := by
  unfold decode at h
  split at h
  · cases h
  · rename_i hr
    refine ⟨by simpa using hr, ?_⟩
    split at h
    · rename_i hw
      split at h
      · cases h
      · split at h
        · cases h
        · cases h
          exact .inl ⟨hw, by simpa using ‹¬keyWrites r.key = true›, by simpa using ‹¬keyOffset r.key ≠ 0#12›, rfl⟩
    · rename_i d hw
      split at h
      · cases h
      · split at h
        · cases h
        · cases h
          exact .inr ⟨d, hw, by simpa using ‹¬r.size ∉ _›, by omega, rfl⟩

/-- An admitted read decodes to what the device's read table answers. -/
theorem decode_busRead {p : Params} (h : p.SizesFixed) (d : Device) {off : Offset}
    (hoff : off.toNat + 4 ≤ Config.windowSize) :
    decode p (busRead d off) = .ok (decodeAccess p d false off 0#32) := by
  simp [decode, busRead, h, Nat.not_lt.mpr hoff]

/-- An admitted write decodes to what the device's write table answers. -/
theorem decode_busWrite {p : Params} (h : p.SizesFixed) (d : Device) {off : Offset} (v : Word)
    (hoff : off.toNat + 4 ≤ Config.windowSize) :
    decode p (busWrite d off v) = .ok (decodeAccess p d true off v) := by
  simp [decode, busWrite, h, Nat.not_lt.mpr hoff]

/-- The device of a decoded access is the device of its window. -/
theorem device_decodeAccess (p : Params) (d : Device) (w : Bool) (off : Offset) (v : Word) :
    (decodeAccess p d w off v).device = d := by
  cases d <;> cases w <;>
    simp only [decodeAccess, decodeUartRead, decodeUartWrite, decodeCanRead, decodeCanWrite, decodeMpuRead,
      decodeMpuWrite] <;>
    (repeat' split) <;> rfl

end Sys2Proof
end

