-- ==== Sys2Proof/Laws/State.lean ====
section
/-! SUPPORT. What each named update of the state does to each field. -/

namespace Sys2Proof.Machine

@[simp] theorem State.withUart_params (s : State) (u : Uart) : (s.withUart u).params = s.params := rfl
@[simp] theorem State.withUart_created (s : State) (u : Uart) : (s.withUart u).created = s.created := rfl
@[simp] theorem State.withUart_uart (s : State) (u : Uart) : (s.withUart u).uart = u := rfl
@[simp] theorem State.withUart_can (s : State) (u : Uart) : (s.withUart u).can = s.can := rfl
@[simp] theorem State.withUart_mpu (s : State) (u : Uart) : (s.withUart u).mpu = s.mpu := rfl
@[simp] theorem State.withUart_out (s : State) (u : Uart) : (s.withUart u).out = s.out := rfl
@[simp] theorem State.withUart_replies (s : State) (u : Uart) : (s.withUart u).replies = s.replies := rfl
@[simp] theorem State.withUart_schedule (s : State) (u : Uart) : (s.withUart u).schedule = s.schedule := rfl

@[simp] theorem State.withCan_params (s : State) (c : Can) : (s.withCan c).params = s.params := rfl
@[simp] theorem State.withCan_created (s : State) (c : Can) : (s.withCan c).created = s.created := rfl
@[simp] theorem State.withCan_uart (s : State) (c : Can) : (s.withCan c).uart = s.uart := rfl
@[simp] theorem State.withCan_can (s : State) (c : Can) : (s.withCan c).can = c := rfl
@[simp] theorem State.withCan_mpu (s : State) (c : Can) : (s.withCan c).mpu = s.mpu := rfl
@[simp] theorem State.withCan_out (s : State) (c : Can) : (s.withCan c).out = s.out := rfl
@[simp] theorem State.withCan_replies (s : State) (c : Can) : (s.withCan c).replies = s.replies := rfl
@[simp] theorem State.withCan_schedule (s : State) (c : Can) : (s.withCan c).schedule = s.schedule := rfl

@[simp] theorem State.withMpu_params (s : State) (m : Mpu) : (s.withMpu m).params = s.params := rfl
@[simp] theorem State.withMpu_created (s : State) (m : Mpu) : (s.withMpu m).created = s.created := rfl
@[simp] theorem State.withMpu_uart (s : State) (m : Mpu) : (s.withMpu m).uart = s.uart := rfl
@[simp] theorem State.withMpu_can (s : State) (m : Mpu) : (s.withMpu m).can = s.can := rfl
@[simp] theorem State.withMpu_mpu (s : State) (m : Mpu) : (s.withMpu m).mpu = m := rfl
@[simp] theorem State.withMpu_out (s : State) (m : Mpu) : (s.withMpu m).out = s.out := rfl
@[simp] theorem State.withMpu_replies (s : State) (m : Mpu) : (s.withMpu m).replies = s.replies := rfl
@[simp] theorem State.withMpu_schedule (s : State) (m : Mpu) : (s.withMpu m).schedule = s.schedule := rfl

@[simp] theorem State.answer_params (s : State) (r : Reply) : (s.answer r).params = s.params := rfl
@[simp] theorem State.answer_created (s : State) (r : Reply) : (s.answer r).created = s.created := rfl
@[simp] theorem State.answer_uart (s : State) (r : Reply) : (s.answer r).uart = s.uart := rfl
@[simp] theorem State.answer_can (s : State) (r : Reply) : (s.answer r).can = s.can := rfl
@[simp] theorem State.answer_mpu (s : State) (r : Reply) : (s.answer r).mpu = s.mpu := rfl
@[simp] theorem State.answer_out (s : State) (r : Reply) : (s.answer r).out = s.out := rfl
@[simp] theorem State.answer_replies (s : State) (r : Reply) : (s.answer r).replies = s.replies ++ [r] := rfl
@[simp] theorem State.answer_schedule (s : State) (r : Reply) : (s.answer r).schedule = s.schedule := rfl

@[simp] theorem State.output_params (s : State) (e : Event) : (s.output e).params = s.params := rfl
@[simp] theorem State.output_created (s : State) (e : Event) : (s.output e).created = s.created := rfl
@[simp] theorem State.output_uart (s : State) (e : Event) : (s.output e).uart = s.uart := rfl
@[simp] theorem State.output_can (s : State) (e : Event) : (s.output e).can = s.can := rfl
@[simp] theorem State.output_mpu (s : State) (e : Event) : (s.output e).mpu = s.mpu := rfl
@[simp] theorem State.output_out (s : State) (e : Event) : (s.output e).out = s.out ++ [e] := rfl
@[simp] theorem State.output_replies (s : State) (e : Event) : (s.output e).replies = s.replies := rfl
@[simp] theorem State.output_schedule (s : State) (e : Event) : (s.output e).schedule = s.schedule := rfl

@[simp] theorem State.emitByte_params (s : State) (b : Byte) : (s.emitByte b).params = s.params := rfl
@[simp] theorem State.emitByte_created (s : State) (b : Byte) : (s.emitByte b).created = s.created := rfl
@[simp] theorem State.emitByte_uart (s : State) (b : Byte) : (s.emitByte b).uart = s.uart := rfl
@[simp] theorem State.emitByte_can (s : State) (b : Byte) : (s.emitByte b).can = s.can := rfl
@[simp] theorem State.emitByte_mpu (s : State) (b : Byte) : (s.emitByte b).mpu = s.mpu := rfl
@[simp] theorem State.emitByte_out (s : State) (b : Byte) : (s.emitByte b).out = s.out ++ [.emit b] := rfl
@[simp] theorem State.emitByte_replies (s : State) (b : Byte) : (s.emitByte b).replies = s.replies := rfl
@[simp] theorem State.emitByte_schedule (s : State) (b : Byte) : (s.emitByte b).schedule = s.schedule := rfl

@[simp] theorem State.logRecord_params (s : State) (k : LogKind) (off : Offset) : (s.logRecord k off).params = s.params := rfl
@[simp] theorem State.logRecord_created (s : State) (k : LogKind) (off : Offset) : (s.logRecord k off).created = s.created := rfl
@[simp] theorem State.logRecord_uart (s : State) (k : LogKind) (off : Offset) : (s.logRecord k off).uart = s.uart := rfl
@[simp] theorem State.logRecord_can (s : State) (k : LogKind) (off : Offset) : (s.logRecord k off).can = s.can := rfl
@[simp] theorem State.logRecord_mpu (s : State) (k : LogKind) (off : Offset) : (s.logRecord k off).mpu = s.mpu := rfl
@[simp] theorem State.logRecord_out (s : State) (k : LogKind) (off : Offset) : (s.logRecord k off).out = s.out ++ [.log k off] := rfl
@[simp] theorem State.logRecord_replies (s : State) (k : LogKind) (off : Offset) : (s.logRecord k off).replies = s.replies := rfl
@[simp] theorem State.logRecord_schedule (s : State) (k : LogKind) (off : Offset) : (s.logRecord k off).schedule = s.schedule := rfl

@[simp] theorem State.recordViolation_params (s : State) (a : Word) : (s.recordViolation a).params = s.params := rfl
@[simp] theorem State.recordViolation_created (s : State) (a : Word) : (s.recordViolation a).created = s.created := rfl
@[simp] theorem State.recordViolation_uart (s : State) (a : Word) : (s.recordViolation a).uart = s.uart := rfl
@[simp] theorem State.recordViolation_can (s : State) (a : Word) : (s.recordViolation a).can = s.can := rfl
@[simp] theorem State.recordViolation_mpu (s : State) (a : Word) : (s.recordViolation a).mpu = { s.mpu with ear := a, edr := Config.edrFaultMarker } := rfl
@[simp] theorem State.recordViolation_out (s : State) (a : Word) : (s.recordViolation a).out = s.out := rfl
@[simp] theorem State.recordViolation_replies (s : State) (a : Word) : (s.recordViolation a).replies = s.replies := rfl
@[simp] theorem State.recordViolation_schedule (s : State) (a : Word) : (s.recordViolation a).schedule = s.schedule := rfl

@[simp] theorem State.irqAssert_uart_params (s : State) : (s.irqAssert .uart).params = s.params := rfl
@[simp] theorem State.irqAssert_uart_created (s : State) : (s.irqAssert .uart).created = s.created := rfl
@[simp] theorem State.irqAssert_uart_uart (s : State) : (s.irqAssert .uart).uart = { s.uart with irqLevel := true } := rfl
@[simp] theorem State.irqAssert_uart_can (s : State) : (s.irqAssert .uart).can = s.can := rfl
@[simp] theorem State.irqAssert_uart_mpu (s : State) : (s.irqAssert .uart).mpu = s.mpu := rfl
@[simp] theorem State.irqAssert_uart_out (s : State) : (s.irqAssert .uart).out = s.out ++ [.irqAssert .uart] := rfl
@[simp] theorem State.irqAssert_uart_replies (s : State) : (s.irqAssert .uart).replies = s.replies := rfl
@[simp] theorem State.irqAssert_uart_schedule (s : State) : (s.irqAssert .uart).schedule = s.schedule := rfl

@[simp] theorem State.irqDeassert_uart_params (s : State) : (s.irqDeassert .uart).params = s.params := rfl
@[simp] theorem State.irqDeassert_uart_created (s : State) : (s.irqDeassert .uart).created = s.created := rfl
@[simp] theorem State.irqDeassert_uart_uart (s : State) : (s.irqDeassert .uart).uart = { s.uart with irqLevel := false } := rfl
@[simp] theorem State.irqDeassert_uart_can (s : State) : (s.irqDeassert .uart).can = s.can := rfl
@[simp] theorem State.irqDeassert_uart_mpu (s : State) : (s.irqDeassert .uart).mpu = s.mpu := rfl
@[simp] theorem State.irqDeassert_uart_out (s : State) : (s.irqDeassert .uart).out = s.out ++ [.irqDeassert .uart] := rfl
@[simp] theorem State.irqDeassert_uart_replies (s : State) : (s.irqDeassert .uart).replies = s.replies := rfl
@[simp] theorem State.irqDeassert_uart_schedule (s : State) : (s.irqDeassert .uart).schedule = s.schedule := rfl

@[simp] theorem State.irqAssert_can_params (s : State) : (s.irqAssert .can).params = s.params := rfl
@[simp] theorem State.irqAssert_can_created (s : State) : (s.irqAssert .can).created = s.created := rfl
@[simp] theorem State.irqAssert_can_uart (s : State) : (s.irqAssert .can).uart = s.uart := rfl
@[simp] theorem State.irqAssert_can_can (s : State) : (s.irqAssert .can).can = { s.can with irqLevel := true } := rfl
@[simp] theorem State.irqAssert_can_mpu (s : State) : (s.irqAssert .can).mpu = s.mpu := rfl
@[simp] theorem State.irqAssert_can_out (s : State) : (s.irqAssert .can).out = s.out ++ [.irqAssert .can] := rfl
@[simp] theorem State.irqAssert_can_replies (s : State) : (s.irqAssert .can).replies = s.replies := rfl
@[simp] theorem State.irqAssert_can_schedule (s : State) : (s.irqAssert .can).schedule = s.schedule := rfl

@[simp] theorem State.irqDeassert_can_params (s : State) : (s.irqDeassert .can).params = s.params := rfl
@[simp] theorem State.irqDeassert_can_created (s : State) : (s.irqDeassert .can).created = s.created := rfl
@[simp] theorem State.irqDeassert_can_uart (s : State) : (s.irqDeassert .can).uart = s.uart := rfl
@[simp] theorem State.irqDeassert_can_can (s : State) : (s.irqDeassert .can).can = { s.can with irqLevel := false } := rfl
@[simp] theorem State.irqDeassert_can_mpu (s : State) : (s.irqDeassert .can).mpu = s.mpu := rfl
@[simp] theorem State.irqDeassert_can_out (s : State) : (s.irqDeassert .can).out = s.out ++ [.irqDeassert .can] := rfl
@[simp] theorem State.irqDeassert_can_replies (s : State) : (s.irqDeassert .can).replies = s.replies := rfl
@[simp] theorem State.irqDeassert_can_schedule (s : State) : (s.irqDeassert .can).schedule = s.schedule := rfl

@[simp] theorem State.irqAssert_mpu_params (s : State) : (s.irqAssert .mpu).params = s.params := rfl
@[simp] theorem State.irqAssert_mpu_created (s : State) : (s.irqAssert .mpu).created = s.created := rfl
@[simp] theorem State.irqAssert_mpu_uart (s : State) : (s.irqAssert .mpu).uart = s.uart := rfl
@[simp] theorem State.irqAssert_mpu_can (s : State) : (s.irqAssert .mpu).can = s.can := rfl
@[simp] theorem State.irqAssert_mpu_mpu (s : State) : (s.irqAssert .mpu).mpu = { s.mpu with irqLevel := true } := rfl
@[simp] theorem State.irqAssert_mpu_out (s : State) : (s.irqAssert .mpu).out = s.out ++ [.irqAssert .mpu] := rfl
@[simp] theorem State.irqAssert_mpu_replies (s : State) : (s.irqAssert .mpu).replies = s.replies := rfl
@[simp] theorem State.irqAssert_mpu_schedule (s : State) : (s.irqAssert .mpu).schedule = s.schedule := rfl

@[simp] theorem State.irqDeassert_mpu_params (s : State) : (s.irqDeassert .mpu).params = s.params := rfl
@[simp] theorem State.irqDeassert_mpu_created (s : State) : (s.irqDeassert .mpu).created = s.created := rfl
@[simp] theorem State.irqDeassert_mpu_uart (s : State) : (s.irqDeassert .mpu).uart = s.uart := rfl
@[simp] theorem State.irqDeassert_mpu_can (s : State) : (s.irqDeassert .mpu).can = s.can := rfl
@[simp] theorem State.irqDeassert_mpu_mpu (s : State) : (s.irqDeassert .mpu).mpu = { s.mpu with irqLevel := false } := rfl
@[simp] theorem State.irqDeassert_mpu_out (s : State) : (s.irqDeassert .mpu).out = s.out ++ [.irqDeassert .mpu] := rfl
@[simp] theorem State.irqDeassert_mpu_replies (s : State) : (s.irqDeassert .mpu).replies = s.replies := rfl
@[simp] theorem State.irqDeassert_mpu_schedule (s : State) : (s.irqDeassert .mpu).schedule = s.schedule := rfl

end Sys2Proof.Machine
end

