-- ==== Sys2Proof/Laws/Ops.lean ====
section
/-! SUPPORT. One spec lemma per shared operation: flags, operand assembly, region match and the permission check. -/

namespace Sys2Proof.Machine

@[simp] theorem txComplete_set (w : Word) : txComplete (setTxComplete w) = true := by
  simp [txComplete, setTxComplete]

@[simp] theorem txComplete_clear (w : Word) : txComplete (clearTxComplete w) = false := by
  simp [txComplete, clearTxComplete]

@[simp] theorem txReady_set (w : Word) : txReady (setTxReady w) = true := by
  simp [txReady, setTxReady]

@[simp] theorem rxReady_set (w : Word) : rxReady (setRxReady w) = true := by
  simp [rxReady, setRxReady]

/-- Setting TX_READY leaves RX_READY. -/
@[simp] theorem rxReady_setTxReady (w : Word) : rxReady (setTxReady w) = rxReady w := by
  simp [rxReady, setTxReady]

/-- Setting RX_READY leaves TX_READY. -/
@[simp] theorem txReady_setRxReady (w : Word) : txReady (setRxReady w) = txReady w := by
  simp [txReady, setRxReady]

/-- A CESR write stores the enable bit set (R145). -/
@[simp] theorem enabled_storedCesr (v : Word) : enabled (storedCesr v) = true := by
  simp [enabled, storedCesr]

/-- The address of the MPU's own read path is the offset (R142). -/
@[simp] theorem offsetAddress_toNat (off : Offset) : (offsetAddress off).toNat = off.toNat := by
  simp only [offsetAddress, BitVec.truncate_eq_setWidth, BitVec.toNat_setWidth]
  exact Nat.mod_eq_of_lt (by omega)

/-- The region end without wrap (R140). -/
@[simp] theorem regionEnd_exact (b : Word) : regionEnd false b = b.toNat + 0x1000 := by
  simp [regionEnd, Config.regionSize]

/-- The region end with wrap (R140). -/
@[simp] theorem regionEnd_wrapped (b : Word) : regionEnd true b = (b.toNat + 0x1000) % 2 ^ 32 := by
  simp [regionEnd, Config.regionSize]

/-- Region match, for either end arithmetic (R139, R140). -/
theorem inRegion_iff (p : Params) (a b : Word) :
    inRegion p a b = true ↔ b.toNat ≤ a.toNat ∧ a.toNat < regionEnd p.regionEndWraps b := by
  simp [inRegion]

/-- Below 0x1000, where the gated read looks (R142), the two end arithmetics agree: a base that could match does not wrap. -/
theorem inRegion_low (p : Params) {a : Word} (b : Word) (h : a.toNat < 0x1000) :
    inRegion p a b = true ↔ b.toNat ≤ a.toNat ∧ a.toNat < b.toNat + 0x1000 := by
  rw [inRegion_iff]
  cases p.regionEndWraps
  · rw [regionEnd_exact]
  · rw [regionEnd_wrapped]
    omega

/-- A region whose end does not wrap holds its own base (R139, R140). -/
theorem inRegion_base (p : Params) {b : Word} (h : p.regionEndWraps = false ∨ b.toNat < 0xFFFFF000) :
    inRegion p b b = true := by
  rw [inRegion_iff]
  cases hw : p.regionEndWraps
  · rw [regionEnd_exact]
    omega
  · rw [regionEnd_wrapped]
    have : b.toNat < 0xFFFFF000 := by simpa [hw] using h
    omega

/-- When one region denies (R138). -/
theorem denies_iff (p : Params) (a req : Word) (r : Region) :
    denies p a req r = true ↔ inRegion p a r.base = true ∧ r.attr &&& req = 0#32 := by
  simp [denies]

/-- The check grants when neither descriptor denies (R138). -/
theorem allowed_iff (p : Params) (m : Mpu) (a req : Word) :
    allowed p m a req = true ↔ denies p a req m.region0 = false ∧ denies p a req m.region1 = false := by
  simp [allowed, regions]

/-- The check refuses when some descriptor denies (R138). -/
theorem not_allowed_iff (p : Params) (m : Mpu) (a req : Word) :
    allowed p m a req = false ↔ denies p a req m.region0 = true ∨ denies p a req m.region1 = true := by
  rw [← Bool.not_eq_true, allowed_iff]
  cases denies p a req m.region0 <;> cases denies p a req m.region1 <;> simp

/-- The check looks only at the descriptors and the end arithmetic (R141). -/
theorem allowed_congr {p q : Params} {m n : Mpu} (hp : p.regionEndWraps = q.regionEndWraps)
    (h0 : m.region0 = n.region0) (h1 : m.region1 = n.region1) (a req : Word) :
    allowed p m a req = allowed q n a req := by
  simp only [allowed, regions, denies, inRegion, hp, h0, h1]

/-- A stored base is 16-byte aligned (R38, R148). -/
theorem storedBase_aligned (v : Word) : storedBase v &&& 0x0000000F#32 = 0#32 := by
  unfold storedBase Config.baseAlignMask
  rw [BitVec.and_assoc, show (0xFFFFFFF0#32 &&& 0x0000000F#32 : Word) = 0#32 by decide, BitVec.and_zero]

/-- A stored attribute keeps the low 4 bits only (R39, R149). -/
theorem storedAttr_masked (v : Word) : storedAttr v &&& 0xFFFFFFF0#32 = 0#32 := by
  unfold storedAttr Config.attrMask
  rw [BitVec.and_assoc, show (0x0000000F#32 &&& 0xFFFFFFF0#32 : Word) = 0#32 by decide, BitVec.and_zero]

end Sys2Proof.Machine
end

