-- ==== Sys2Proof/Laws/PerInstr.lean ====
section
/-! SUPPORT. Per-instruction laws about the instruction as syntax: the fields of the key it is encoded with. -/

namespace Sys2Proof.Laws.KeyFields

/-- The encoded key has its reserved bit 0, the instruction's own direction and unit, and size 4 beside it (R76, R77). -/
def Statement (i : Instr) : Prop :=
  ∀ p : Params,
    keyReserved (encode p i).key = false ∧
    keyWrites (encode p i).key = i.isWrite ∧
    windowOf (keyUnit (encode p i).key) = (if i.isCheck then none else some i.device) ∧
    (encode p i).size = 4

/-- A bus read's key fields. -/
theorem of_busRead {i : Instr} {d : Device} {off : Params → Offset} (h : ∀ p, encode p i = busRead d (off p))
    (hw : i.isWrite = false) (hc : i.isCheck = false) (hd : i.device = d) : Statement i := fun p => by
  simp [h, busRead, hw, hc, hd]

/-- A bus write's key fields. -/
theorem of_busWrite {i : Instr} {d : Device} {off : Params → Offset} {v : Word}
    (h : ∀ p, encode p i = busWrite d (off p) v)
    (hw : i.isWrite = true) (hc : i.isCheck = false) (hd : i.device = d) : Statement i := fun p => by
  simp [h, busWrite, hw, hc, hd]

theorem rdUartBaud : Statement .rdUartBaud :=
  of_busRead (fun _ => rfl) rfl rfl rfl

theorem rdUartCtrl : Statement .rdUartCtrl :=
  of_busRead (fun _ => rfl) rfl rfl rfl

theorem rdUartStatus : Statement .rdUartStatus :=
  of_busRead (fun _ => rfl) rfl rfl rfl

theorem rdUartData : Statement .rdUartData :=
  of_busRead (fun _ => rfl) rfl rfl rfl

theorem wrUartBaud (v : Word) : Statement (.wrUartBaud v) :=
  of_busWrite (fun _ => rfl) rfl rfl rfl

theorem wrUartCtrl (v : Word) : Statement (.wrUartCtrl v) :=
  of_busWrite (fun _ => rfl) rfl rfl rfl

theorem wrUartStatus (v : Word) : Statement (.wrUartStatus v) :=
  of_busWrite (fun _ => rfl) rfl rfl rfl

theorem wrUartData (v : Word) : Statement (.wrUartData v) :=
  of_busWrite (fun _ => rfl) rfl rfl rfl

theorem rdUartInvalid (off : Offset) : Statement (.rdUartInvalid off) :=
  of_busRead (fun _ => rfl) rfl rfl rfl

theorem wrUartInvalid (off : Offset) (v : Word) : Statement (.wrUartInvalid off v) :=
  of_busWrite (fun _ => rfl) rfl rfl rfl

theorem rdCanMcr : Statement .rdCanMcr :=
  of_busRead (fun _ => rfl) rfl rfl rfl

theorem rdCanCtrl : Statement .rdCanCtrl :=
  of_busRead (fun _ => rfl) rfl rfl rfl

theorem rdCanStatus : Statement .rdCanStatus :=
  of_busRead (fun _ => rfl) rfl rfl rfl

theorem rdCanTxbuf : Statement .rdCanTxbuf :=
  of_busRead (fun _ => rfl) rfl rfl rfl

theorem rdCanRxbuf : Statement .rdCanRxbuf :=
  of_busRead (fun _ => rfl) rfl rfl rfl

theorem rdCanIrq : Statement .rdCanIrq :=
  of_busRead (fun _ => rfl) rfl rfl rfl

theorem wrCanMcr (v : Word) : Statement (.wrCanMcr v) :=
  of_busWrite (fun _ => rfl) rfl rfl rfl

theorem wrCanCtrl (v : Word) : Statement (.wrCanCtrl v) :=
  of_busWrite (fun _ => rfl) rfl rfl rfl

theorem wrCanStatus (v : Word) : Statement (.wrCanStatus v) :=
  of_busWrite (fun _ => rfl) rfl rfl rfl

theorem wrCanTxbuf (v : Word) : Statement (.wrCanTxbuf v) :=
  of_busWrite (fun _ => rfl) rfl rfl rfl

theorem wrCanRxbuf (v : Word) : Statement (.wrCanRxbuf v) :=
  of_busWrite (fun _ => rfl) rfl rfl rfl

theorem wrCanIrq (v : Word) : Statement (.wrCanIrq v) :=
  of_busWrite (fun _ => rfl) rfl rfl rfl

theorem rdCanInvalid (off : Offset) : Statement (.rdCanInvalid off) :=
  of_busRead (fun _ => rfl) rfl rfl rfl

theorem wrCanInvalid (off : Offset) (v : Word) : Statement (.wrCanInvalid off v) :=
  of_busWrite (fun _ => rfl) rfl rfl rfl

theorem rdMpuCesr : Statement .rdMpuCesr :=
  of_busRead (fun _ => rfl) rfl rfl rfl

theorem rdMpuEar : Statement .rdMpuEar :=
  of_busRead (fun _ => rfl) rfl rfl rfl

theorem rdMpuEdr : Statement .rdMpuEdr :=
  of_busRead (fun _ => rfl) rfl rfl rfl

theorem rdMpuRgn0Base : Statement .rdMpuRgn0Base :=
  of_busRead (fun _ => rfl) rfl rfl rfl

theorem rdMpuRgn0Attr : Statement .rdMpuRgn0Attr :=
  of_busRead (fun _ => rfl) rfl rfl rfl

theorem rdMpuRgn1Base : Statement .rdMpuRgn1Base :=
  of_busRead (fun _ => rfl) rfl rfl rfl

theorem rdMpuRgn1Attr : Statement .rdMpuRgn1Attr :=
  of_busRead (fun _ => rfl) rfl rfl rfl

theorem wrMpuCesr (v : Word) : Statement (.wrMpuCesr v) :=
  of_busWrite (fun _ => rfl) rfl rfl rfl

theorem wrMpuEar (v : Word) : Statement (.wrMpuEar v) :=
  of_busWrite (fun _ => rfl) rfl rfl rfl

theorem wrMpuEdr (v : Word) : Statement (.wrMpuEdr v) :=
  of_busWrite (fun _ => rfl) rfl rfl rfl

theorem wrMpuRgn0Base (v : Word) : Statement (.wrMpuRgn0Base v) :=
  of_busWrite (fun _ => rfl) rfl rfl rfl

theorem wrMpuRgn0Attr (v : Word) : Statement (.wrMpuRgn0Attr v) :=
  of_busWrite (fun _ => rfl) rfl rfl rfl

theorem wrMpuRgn1Base (v : Word) : Statement (.wrMpuRgn1Base v) :=
  of_busWrite (fun _ => rfl) rfl rfl rfl

theorem wrMpuRgn1Attr (v : Word) : Statement (.wrMpuRgn1Attr v) :=
  of_busWrite (fun _ => rfl) rfl rfl rfl

theorem rdMpuGated (off : Offset) : Statement (.rdMpuGated off) :=
  of_busRead (fun _ => rfl) rfl rfl rfl

theorem wrMpuUnauthorized (off : Offset) (v : Word) : Statement (.wrMpuUnauthorized off v) :=
  of_busWrite (fun _ => rfl) rfl rfl rfl

theorem chk (a : Word) (req : Word) : Statement (.chk a req) := fun p => by
  simp [encode, checkCall, Instr.isWrite, Instr.isCheck, windowOf_eq_none]

end Sys2Proof.Laws.KeyFields
end

