-- ==== Sys2Proof/Laws/Step.lean ====
section
/-! SUPPORT. What admission and one step can do, said once. -/

namespace Sys2Proof.Machine

/-- What an admitted request has met (R9, R52, R57, R179). -/
theorem acceptRequest_ok {s : State} {r : Request} {i : Instr} (h : acceptRequest s r = .ok i) :
    s.params.WF ∧ s.Legal ∧ decode s.params r = .ok i ∧ hasDevice s.created i.device = true := by
  unfold acceptRequest at h
  split at h
  · cases h
  · rename_i hwf
    split at h
    · cases h
    · rename_i hl
      refine ⟨not_not.mp hwf, not_not.mp hl, ?_⟩
      split at h
      · cases h
      · rename_i j hj
        split at h
        · cases h
          exact ⟨hj, ‹_›⟩
        · cases h

/-- What suffices for a request to be admitted. -/
theorem acceptRequest_of {s : State} {r : Request} {i : Instr} (hwf : s.params.WF) (hl : s.Legal)
    (hd : decode s.params r = .ok i) (hc : hasDevice s.created i.device = true) : acceptRequest s r = .ok i := by
  rw [acceptRequest, if_neg (not_not.mpr hwf), if_neg (not_not.mpr hl)]
  simp only [hd, hc, if_true]

/-- A step's next state is that of the one transaction it performed (R65). -/
theorem step_next {s t : State} (h : step s = .next t) :
    ∃ r rest i, s.schedule = r :: rest ∧ acceptRequest s r = .ok i ∧ exec i { s with schedule := rest } = .next t := by
  unfold step at h
  split at h
  · cases h
  · rename_i r rest hs
    split at h
    · cases h
    · rename_i i hi
      exact ⟨r, rest, i, hs, hi, h⟩

/-- A step with an empty schedule (R188). -/
theorem step_of_nil {s : State} (h : s.schedule = []) : step s = .fault .endOfRun := by
  simp only [step, h]

/-- A step over a refused request (R57). -/
theorem step_of_refused {s : State} {r : Request} {rest : List Request} {why : Refusal}
    (h : s.schedule = r :: rest) (ha : acceptRequest s r = .error why) : step s = .refused why := by
  simp only [step, h, ha]

/-- A step over an admitted request. -/
theorem step_of_admitted {s : State} {r : Request} {rest : List Request} {i : Instr}
    (h : s.schedule = r :: rest) (ha : acceptRequest s r = .ok i) : step s = exec i { s with schedule := rest } := by
  simp only [step, h, ha]

end Sys2Proof.Machine
end

