-- ==== Sys2Proof/Tests/Slice0.lean ====
section
/-! SUPPORT. Small tests: well-formedness, decoding of keys written from R76, the vectors of 95_test_vectors.md (each
named), and a witness for the hypotheses of every statement. -/

namespace Sys2Proof.Tests

open Sys2Proof.Machine

/-! ### Helpers -/

/-- The block right after creation, decided defaults. -/
abbrev s0 : State := State.reset

/-- `s` with the parameter record changed by `f`. -/
def withParams (s : State) (f : Params → Params) : State := { s with params := f s.params }

/-- The default record with one field changed is built from this. -/
abbrev p0 : Params := Params.atReset

/-- One admitted step on the request with key `k` and operands `v`, `b`. -/
def perform (s : State) (k : Key) (v b : Word) : Option State :=
  nextState (step (s.present { key := k, size := 4, opA := v, opB := b }))

/-- What that step hands back. -/
def returned (s : State) (k : Key) (v b : Word) : Option (List Reply) := (perform s k v b).map State.replies

/-- What a read at key `k` returns after the write of `v` at key `kw`. -/
def readAfter (s : State) (kw : Key) (v : Word) (k : Key) : Option (List Reply) :=
  (perform s kw v 0#32).bind fun t => returned t k 0#32 0#32

/-- The UART with the interrupt enabled (V-UART-8, V-UART-10). -/
def uartIe (level : Bool) : State :=
  s0.withUart { s0.uart with control := 2#32, interruptEnabled := true, irqLevel := level }

/-- The UART line asserted, the interrupt disabled. -/
def uartAsserted : State := s0.withUart { s0.uart with irqLevel := true }

/-- The CAN controller with `ctrl` and `status` as given. -/
def canWith (ctrl status : Word) : State := s0.withCan { s0.can with ctrl := ctrl, status := status }

/-- The CAN line asserted. -/
def canAsserted : State := s0.withCan { s0.can with irqLevel := true }

/-- The MPU with the two descriptors given as base and attribute. -/
def mpuWith (b0 a0 b1 a1 : Word) : State :=
  s0.withMpu { s0.mpu with region0 := { base := b0, attr := a0 }, region1 := { base := b1, attr := a1 } }

/-! ### Well-formedness (R9, R54, R59, R57, R82) -/

theorem test_wf_defaults : p0.WF := by decide

theorem test_wf_refuses_equal_uart_offsets : ¬ Params.WF { p0 with uartOffCtrl := 0x000#12 } := by decide

theorem test_wf_refuses_equal_can_offsets : ¬ Params.WF { p0 with canOffIrq := 0x010#12 } := by decide

theorem test_wf_refuses_equal_mpu_offsets : ¬ Params.WF { p0 with mpuOffRgn1Attr := 0x008#12 } := by decide

/-- Two devices may use one offset: distinctness is per device (R9 a). -/
theorem test_wf_admits_equal_offsets_of_two_devices :
    Params.WF { p0 with uartOffData := 0x014#12 } := by decide

theorem test_wf_refuses_offset_past_window : ¬ Params.WF { p0 with uartOffData := 0xFFD#12 } := by decide

theorem test_wf_admits_last_offset : Params.WF { p0 with uartOffData := 0xFFC#12 } := by decide

theorem test_wf_refuses_zero_permission : ¬ Params.WF { p0 with permRead := 0#32 } := by decide

theorem test_wf_refuses_wide_permission : ¬ Params.WF { p0 with permExec := 0x10#32 } := by decide

theorem test_wf_refuses_overlapping_windows :
    ¬ Params.WF { p0 with platform := { p0.platform with baseCan := 0x00000FFF#32 } } := by decide

theorem test_wf_refuses_other_sizes : ¬ Params.WF { p0 with admittedSizes := [1, 4] } := by decide

theorem test_wf_refuses_mapped_fallback : (Instr.rdUartInvalid 0x008#12).wellFormed p0 = false := by decide

theorem test_wf_refuses_mapped_can_fallback : (Instr.wrCanInvalid 0x014#12 5#32).wellFormed p0 = false := by decide

theorem test_wf_refuses_fallback_past_window : (Instr.rdMpuGated 0xFFD#12).wellFormed p0 = false := by decide

theorem test_wf_refuses_mapped_mpu_fallback : (Instr.wrMpuUnauthorized 0x018#12 0#32).wellFormed p0 = false := by decide

theorem test_wf_admits_fallback : (Instr.rdMpuGated 0x01C#12).wellFormed p0 = true := by decide

/-! ### Decoding: the keys of R83 to R85 written out by the fields of R76: unit, direction, reserved, offset -/

/-- The instruction a key selects with operands 0xA5 and 0x3. -/
def selected (k : Key) : Option Instr :=
  match decode p0 { key := k, size := 4, opA := 0xA5#32, opB := 0x3#32 } with
  | .ok i    => some i
  | .error _ => none

theorem test_decode_uart_reads :
    [0b00_0_0_000000000000#16, 0b00_0_0_000000000100#16, 0b00_0_0_000000001000#16, 0b00_0_0_000000001100#16,
      0b00_0_0_000000000001#16].map selected =
    [some .rdUartBaud, some .rdUartCtrl, some .rdUartStatus, some .rdUartData, some (.rdUartInvalid 0x001#12)] := by
  decide

theorem test_decode_uart_writes :
    [0b00_1_0_000000000000#16, 0b00_1_0_000000000100#16, 0b00_1_0_000000001000#16, 0b00_1_0_000000001100#16,
      0b00_1_0_000000001101#16].map selected =
    [some (.wrUartBaud 0xA5#32), some (.wrUartCtrl 0xA5#32), some (.wrUartStatus 0xA5#32),
      some (.wrUartData 0xA5#32), some (.wrUartInvalid 0x00D#12 0xA5#32)] := by
  decide

theorem test_decode_can_reads :
    [0b01_0_0_000000000000#16, 0b01_0_0_000000000100#16, 0b01_0_0_000000001000#16, 0b01_0_0_000000001100#16,
      0b01_0_0_000000010000#16, 0b01_0_0_000000010100#16, 0b01_0_0_000000011000#16].map selected =
    [some .rdCanMcr, some .rdCanCtrl, some .rdCanStatus, some .rdCanTxbuf, some .rdCanRxbuf, some .rdCanIrq,
      some (.rdCanInvalid 0x018#12)] := by
  decide

theorem test_decode_can_writes :
    [0b01_1_0_000000000000#16, 0b01_1_0_000000000100#16, 0b01_1_0_000000001000#16, 0b01_1_0_000000001100#16,
      0b01_1_0_000000010000#16, 0b01_1_0_000000010100#16, 0b01_1_0_000000001110#16].map selected =
    [some (.wrCanMcr 0xA5#32), some (.wrCanCtrl 0xA5#32), some (.wrCanStatus 0xA5#32), some (.wrCanTxbuf 0xA5#32),
      some (.wrCanRxbuf 0xA5#32), some (.wrCanIrq 0xA5#32), some (.wrCanInvalid 0x00E#12 0xA5#32)] := by
  decide

theorem test_decode_mpu_reads :
    [0b10_0_0_000000000000#16, 0b10_0_0_000000000100#16, 0b10_0_0_000000001000#16, 0b10_0_0_000000001100#16,
      0b10_0_0_000000010000#16, 0b10_0_0_000000010100#16, 0b10_0_0_000000011000#16,
      0b10_0_0_000000011100#16].map selected =
    [some .rdMpuCesr, some .rdMpuEar, some .rdMpuEdr, some .rdMpuRgn0Base, some .rdMpuRgn0Attr,
      some .rdMpuRgn1Base, some .rdMpuRgn1Attr, some (.rdMpuGated 0x01C#12)] := by
  decide

theorem test_decode_mpu_writes :
    [0b10_1_0_000000000000#16, 0b10_1_0_000000000100#16, 0b10_1_0_000000001000#16, 0b10_1_0_000000001100#16,
      0b10_1_0_000000010000#16, 0b10_1_0_000000010100#16, 0b10_1_0_000000011000#16,
      0b10_1_0_000000011010#16].map selected =
    [some (.wrMpuCesr 0xA5#32), some (.wrMpuEar 0xA5#32), some (.wrMpuEdr 0xA5#32), some (.wrMpuRgn0Base 0xA5#32),
      some (.wrMpuRgn0Attr 0xA5#32), some (.wrMpuRgn1Base 0xA5#32), some (.wrMpuRgn1Attr 0xA5#32),
      some (.wrMpuUnauthorized 0x01A#12 0xA5#32)] := by
  decide

theorem test_decode_check : selected 0b11_0_0_000000000000#16 = some (.chk 0xA5#32 0x3#32) := by decide

/-- With the offsets moved, the decode moves with them (R82, R83): DATA at 0x020, and 0x00C is invalid. -/
theorem test_decode_follows_offsets :
    decode { p0 with uartOffData := 0x020#12 } { key := 0x2020#16, size := 4, opA := 7#32, opB := 0#32 } =
      .ok (.wrUartData 7#32) ∧
    decode { p0 with uartOffData := 0x020#12 } { key := 0x200C#16, size := 4, opA := 7#32, opB := 0#32 } =
      .ok (.wrUartInvalid 0x00C#12 7#32) := by
  decide

/-- V-UART-17: the last admitted offset. V-UART-19: the first one past it. -/
theorem test_decode_window_end :
    selected 0x0FFC#16 = some (.rdUartInvalid 0xFFC#12) ∧
    decode p0 { key := 0x0FFD#16, size := 4, opA := 0#32, opB := 0#32 } = .error .outsideWindow := by
  decide

/-- V-UART-20: a 1-byte access is refused. -/
theorem test_decode_refuses_size_one :
    decode p0 { key := 0x0008#16, size := 1, opA := 0#32, opB := 0#32 } = .error .sizeNotAdmitted := by
  decide

/-- R89: the three reserved keys. -/
theorem test_decode_refuses_reserved_keys :
    decode p0 { key := 0x1000#16, size := 4, opA := 0#32, opB := 0#32 } = .error .reservedKeyBit ∧
    decode p0 { key := 0xE000#16, size := 4, opA := 0#32, opB := 0#32 } = .error .checkPortWrite ∧
    decode p0 { key := 0xC004#16, size := 4, opA := 0#32, opB := 0#32 } = .error .checkPortOffset := by
  decide

/-- The table word with operands: key 0x200C, value 0x41; and a check of address 0x100 for 0x2. -/
theorem test_decode_table_word :
    decodeTableWord 48 0x00000041200C = some (.wrUartData 0x41#32) ∧
    decodeTableWord 80 0x0000000200000100C000 = some (.chk 0x100#32 0x2#32) ∧
    decodeTableWord 16 0x6014 = some (.wrCanIrq 0#32) := by
  decide

theorem test_fetch_word_runs_first :
    (nextState (step (s0.withFetchWord 16 0x0008))).map State.replies = some [.data 1#32] := by decide

/-! ### UART vectors -/

/-- V-UART-1. -/
theorem test_rd_baud : returned s0 0x0000#16 0#32 0#32 = some [.data 0#32] := by decide

/-- V-UART-2. -/
theorem test_rd_ctrl : returned s0 0x0004#16 0#32 0#32 = some [.data 0#32] := by decide

/-- V-UART-3. -/
theorem test_rd_status : returned s0 0x0008#16 0#32 0#32 = some [.data 1#32] := by decide

/-- V-UART-4. -/
theorem test_rd_data : returned s0 0x000C#16 0#32 0#32 = some [.data 0#32] := by decide

/-- V-UART-9 and R99: the read gives all 32 bits, not the byte. -/
theorem test_rd_data_all_bits : readAfter s0 0x200C#16 0x1FF#32 0x000C#16 = some [.data 0x1FF#32] := by decide

/-- V-UART-5. -/
theorem test_wr_baud : (perform s0 0x2000#16 0xFFFFFFFF#32 0#32).map (fun t => t.uart.baudRate) =
    some 0xFFFFFFFF#32 := by decide

/-- V-UART-6: every bit of CTRL but bit 1. -/
theorem test_wr_ctrl_other_bits : (perform s0 0x2004#16 0xFFFFFFFD#32 0#32).map
    (fun t => (t.uart.control, t.uart.interruptEnabled)) = some (0xFFFFFFFD#32, false) := by decide

/-- V-UART-7: enabling with TX_COMPLETE set does not assert. -/
theorem test_wr_ctrl_enable : (perform s0 0x2004#16 0x2#32 0#32).map
    (fun t => (t.uart.interruptEnabled, t.uart.irqLevel, t.out)) = some (true, false, []) := by decide

/-- V-UART-12. -/
theorem test_wr_status_clears : (perform uartAsserted 0x2008#16 0#32 0#32).map
    (fun t => (t.uart.status, t.uart.irqLevel, t.out)) = some (0#32, false, [.irqDeassert .uart]) := by decide

/-- V-UART-14, first write: VERBATIM. -/
theorem test_wr_status_verbatim :
    (perform (withParams s0 fun p => { p with uartStatusWriteMode := .verbatim }) 0x2008#16 0xF0#32 0#32).map
      (fun t => (t.uart.status, t.out)) = some (0xF0#32, [.irqDeassert .uart]) := by decide

/-- V-UART-8: byte 0x00 of 0xFFFFFF00, then the assertion. -/
theorem test_wr_data_asserts : (perform (uartIe false) 0x200C#16 0xFFFFFF00#32 0#32).map
    (fun t => (t.uart.data, t.uart.irqLevel, t.out)) =
    some (0xFFFFFF00#32, true, [.emit 0x00#8, .irqAssert .uart]) := by decide

/-- V-UART-9: byte 0xFF of 0x1FF, no assertion. -/
theorem test_wr_data_silent : (perform s0 0x200C#16 0x1FF#32 0#32).map
    (fun t => (t.uart.data, t.uart.irqLevel, t.out)) = some (0x1FF#32, false, [.emit 0xFF#8]) := by decide

/-- V-UART-16. -/
theorem test_rd_uart_invalid : (perform s0 0x0001#16 0#32 0#32).map (fun t => (t.replies, t.uart)) =
    some ([.data 0#32], s0.uart) := by decide

/-- V-UART-18: no byte leaves. -/
theorem test_wr_uart_invalid : (perform s0 0x200D#16 0x41#32 0#32).map (fun t => (observed t.out, t.uart)) =
    some ([], s0.uart) := by decide

/-! ### CAN vectors -/

/-- V-CAN-1. -/
theorem test_rd_mcr : returned s0 0x4000#16 0#32 0#32 = some [.data 0#32] := by decide

/-- R112 on V-CAN-10's start state. -/
theorem test_rd_can_ctrl : returned (canWith 0xFFFFFFFB#32 1#32) 0x4004#16 0#32 0#32 =
    some [.data 0xFFFFFFFB#32] := by decide

/-- V-CAN-3: the read forces TX_READY, the register stays. -/
theorem test_rd_can_status_forced : (perform (canWith 0#32 0#32) 0x4008#16 0#32 0#32).map
    (fun t => (t.replies, t.can.status)) = some ([.data 1#32], 0#32) := by decide

/-- V-CAN-4. -/
theorem test_rd_can_status_stored :
    returned (withParams (canWith 0#32 0#32) fun p => { p with canStatusReadMode := .stored }) 0x4008#16 0#32 0#32 =
      some [.data 0#32] := by decide

/-- R114 after V-CAN-8's write. -/
theorem test_rd_txbuf : (perform s0 0x600C#16 0xDEADBEEF#32 0#32).bind (fun t => returned t 0x400C#16 0#32 0#32) =
    some [.data 0xDEADBEEF#32] := by decide

/-- V-CAN-15. -/
theorem test_rd_rxbuf : (perform (s0.withCan { s0.can with status := 3#32, rxBuf := 9#32 }) 0x4010#16 0#32 0#32).map
    (fun t => (t.replies, t.can.status)) = some ([.data 9#32], 3#32) := by decide

/-- V-CAN-16: the write is ignored. -/
theorem test_rd_can_irq : readAfter s0 0x6014#16 0xFF#32 0x4014#16 = some [.data 0#32] := by decide

/-- R118. -/
theorem test_wr_mcr : readAfter s0 0x6000#16 0x80000001#32 0x4000#16 = some [.data 0x80000001#32] := by decide

/-- V-CAN-20: setting LOOPBACK copies nothing. -/
theorem test_wr_can_ctrl : (perform (s0.withCan { s0.can with txBuf := 5#32 }) 0x6004#16 4#32 0#32).map
    (fun t => (t.can.ctrl, t.can.rxBuf)) = some (4#32, 0#32) := by decide

/-- V-CAN-5. -/
theorem test_wr_can_status : readAfter s0 0x6008#16 0xFFFFFFFE#32 0x4008#16 = some [.data 0xFFFFFFFF#32] := by decide

/-- V-CAN-7. -/
theorem test_wr_can_status_lowers :
    (perform (withParams canAsserted fun p => { p with canStatusWriteLowersIrq := true }) 0x6008#16 0#32 0#32).map
      (fun t => (t.can.status, t.can.irqLevel, t.out)) = some (0#32, false, [.irqDeassert .can]) := by decide

/-- V-CAN-9: loopback sets both flags. -/
theorem test_wr_txbuf_loopback : (perform (canWith 4#32 0#32) 0x600C#16 0x22#32 0#32).map
    (fun t => (t.can.txBuf, t.can.rxBuf, t.can.status)) = some (0x22#32, 0x22#32, 3#32) := by decide

/-- V-CAN-10: every CTRL bit but bit 2. -/
theorem test_wr_txbuf_no_loopback : (perform (canWith 0xFFFFFFFB#32 1#32) 0x600C#16 1#32 0#32).map
    (fun t => (t.can.rxBuf, t.can.status, t.out)) = some (0#32, 1#32, [.irqAssert .can]) := by decide

/-- V-CAN-14. -/
theorem test_wr_rxbuf : (perform s0 0x6010#16 0x77#32 0#32).map (fun t => (t.can.rxBuf, t.can.status)) =
    some (0x77#32, 1#32) := by decide

/-- V-CAN-17: STORE, and the line stays down. -/
theorem test_wr_can_irq_store :
    (perform (withParams s0 fun p => { p with canIrqWrite := .store }) 0x6014#16 0xFF#32 0#32).map
      (fun t => (t.can.irqReg, t.can.irqLevel)) = some (0xFF#32, false) := by decide

/-- V-CAN-18. -/
theorem test_rd_can_invalid : returned s0 0x4018#16 0#32 0#32 = some [.data 0#32] := by decide

/-- V-CAN-19: no assertion. -/
theorem test_wr_can_invalid : (perform s0 0x600E#16 1#32 0#32).map (fun t => (observed t.out, t.can)) =
    some ([], s0.can) := by decide

/-! ### MPU vectors -/

/-- V-MPU-5. -/
theorem test_rd_cesr : returned s0 0x8000#16 0#32 0#32 = some [.data 1#32] := by decide

/-- V-MPU-8. -/
theorem test_ear_read_back : readAfter s0 0xA004#16 0xFFFFFFFF#32 0x8004#16 = some [.data 0xFFFFFFFF#32] := by decide

/-- L1-7 line 3. -/
theorem test_edr_read_back : readAfter s0 0xA008#16 0x5678#32 0x8008#16 = some [.data 0x5678#32] := by decide

/-- V-MPU-19: no gating inside a denying region. -/
theorem test_rd_rgn0_base : returned (mpuWith 0x10#32 0#32 0x2000#32 0#32) 0x800C#16 0#32 0#32 =
    some [.data 0x10#32] := by decide

/-- L1-7 line 5. -/
theorem test_rd_rgn0_attr : readAfter s0 0xA010#16 7#32 0x8010#16 = some [.data 7#32] := by decide

/-- V-MPU-13. -/
theorem test_rgn1_base : readAfter s0 0xA014#16 0xFFFFFFFF#32 0x8014#16 = some [.data 0xFFFFFFF0#32] := by decide

/-- V-MPU-12. -/
theorem test_rgn1_attr : readAfter s0 0xA018#16 0x17#32 0x8018#16 = some [.data 7#32] := by decide

/-- V-MPU-7. -/
theorem test_wr_cesr : (perform s0 0xA000#16 0x80000000#32 0#32).map (fun t => t.mpu.cesr) =
    some 0x80000001#32 := by decide

/-- V-MPU-10. -/
theorem test_wr_rgn0_base : (perform s0 0xA00C#16 0x100F#32 0#32).map (fun t => t.mpu.region0.base) =
    some 0x1000#32 := by decide

/-- V-MPU-11. -/
theorem test_wr_rgn0_attr : (perform s0 0xA010#16 0xFFFFFFF0#32 0#32).map (fun t => t.mpu.region0.attr) =
    some 0#32 := by decide

/-- V-MPU-15: region 1 still denies. -/
theorem test_rd_gated_denied : (perform (mpuWith 0#32 1#32 0#32 0#32) 0x8100#16 0#32 0#32).map
    (fun t => (t.mpu.ear, t.mpu.edr, t.replies)) = some (0x100#32, 0xDEAD#32, [.data 0#32]) := by decide

/-- V-MPU-17: 0x001 lies below region 0. -/
theorem test_rd_gated_allowed : (perform (mpuWith 0x10#32 0#32 0x2000#32 0#32) 0x8001#16 0#32 0#32).map
    (fun t => (t.mpu.ear, t.mpu.edr, t.replies)) = some (0#32, 0#32, [.data 0#32]) := by decide

/-- V-MPU-21. -/
theorem test_wr_unauthorized : (perform s0 0xA100#16 5#32 0#32).map (fun t => t.mpu) = some s0.mpu := by decide

/-- V-MPU-1, V-MPU-2, V-CHK-1, V-CHK-2. -/
theorem test_chk_boundary :
    returned s0 0xC000#16 0xFFF#32 1#32 = some [.verdict false] ∧
    returned s0 0xC000#16 0x1000#32 1#32 = some [.verdict true] ∧
    returned (mpuWith 0x2000#32 0xF#32 0#32 0#32) 0xC000#16 0x2000#32 0#32 = some [.verdict false] ∧
    returned (mpuWith 0x2000#32 0xF#32 0#32 0#32) 0xC000#16 0x5000#32 0#32 = some [.verdict true] := by decide

/-- V-CHK-15 with `P_MPU_CHECK_RECORDS`. -/
theorem test_chk_records :
    (perform (withParams s0 fun p => { p with mpuCheckRecords := true }) 0xC000#16 0x500#32 1#32).map
      (fun t => (t.mpu.ear, t.mpu.edr, t.replies)) = some (0x500#32, 0xDEAD#32, [.verdict false]) := by decide

/-- V-CHK-5, V-CHK-9, V-CHK-10, V-CHK-11 on the check itself. -/
theorem test_allowed_bits_and_overlap :
    allowed p0 (mpuWith 0x2000#32 0xF#32 0#32 0#32).mpu 0x2000#32 0x10#32 = false ∧
    allowed p0 (mpuWith 0x1000#32 1#32 0x1800#32 2#32).mpu 0x1900#32 1#32 = false ∧
    allowed p0 (mpuWith 0x1000#32 1#32 0x1800#32 2#32).mpu 0x1900#32 3#32 = true ∧
    allowed p0 (mpuWith 0x1000#32 1#32 0x1800#32 2#32).mpu 0x1100#32 2#32 = false := by decide

/-- V-CHK-12, V-CHK-13: the top of the address space, by either arithmetic. -/
theorem test_allowed_at_top :
    allowed p0 (mpuWith 0xFFFFF000#32 0#32 0#32 0#32).mpu 0xFFFFFFFF#32 1#32 = false ∧
    allowed { p0 with regionEndWraps := true } (mpuWith 0xFFFFF000#32 0#32 0#32 0#32).mpu 0xFFFFFFFF#32 1#32 =
      true := by decide

/-! ### Witnesses: concrete states and operands that meet the hypotheses of a statement -/

/-- The state with a DATA write scheduled. -/
def scheduled (k : Key) (n : Nat) : State := s0.present { key := k, size := n, opA := 0x41#32, opB := 1#32 }

theorem witness_CreationIsLaunchable :
    windowsApart 0x00000000#32 0x00001000#32 ∧ windowsApart 0x00000000#32 0xFFFFF000#32 ∧
    windowsApart 0x00001000#32 0xFFFFF000#32 := by decide

theorem witness_StepKeepsLegalState :
    (scheduled 0x200C#16 4).Legal ∧ ∃ t, step (scheduled 0x200C#16 4) = .next t := ⟨by decide, _, rfl⟩

theorem witness_DecodeEncodeRoundTrip :
    p0.WF ∧ (Instr.rdUartInvalid 0xFFC#12).wellFormed p0 = true ∧ (Instr.wrMpuRgn1Attr 7#32).wellFormed p0 = true := by
  decide

theorem witness_DecodedRequestReencodes_write :
    p0.WF ∧ decode p0 { key := 0x200C#16, size := 4, opA := 1#32, opB := 2#32 } = .ok (.wrUartData 1#32) ∧
    (Instr.wrUartData 1#32).isWrite = true ∧ (Instr.wrUartData 1#32).isCheck = false := by decide

theorem witness_DecodedRequestReencodes_check :
    p0.WF ∧ decode p0 { key := 0xC000#16, size := 1, opA := 1#32, opB := 2#32 } = .ok (.chk 1#32 2#32) ∧
    (Instr.chk 1#32 2#32).isCheck = true := by decide

theorem witness_StepRunsDecodedTransaction :
    (scheduled 0x200C#16 4).schedule = [{ key := 0x200C#16, size := 4, opA := 0x41#32, opB := 1#32 }] ∧
    launchable (scheduled 0x200C#16 4) ∧
    decode (scheduled 0x200C#16 4).params { key := 0x200C#16, size := 4, opA := 0x41#32, opB := 1#32 } =
      .ok (.wrUartData 0x41#32) ∧
    hasDevice (scheduled 0x200C#16 4).created .uart = true := ⟨by decide, ⟨by decide, by decide⟩, by decide, by decide⟩

theorem witness_RefusalsByName_illFormed :
    ∃ r, (withParams (scheduled 0x200C#16 4) fun p => { p with permRead := 0#32 }).schedule = [r] ∧
      ¬ (withParams (scheduled 0x200C#16 4) fun p => { p with permRead := 0#32 }).params.WF := ⟨_, rfl, by decide⟩

theorem witness_RefusalsByName_illegal :
    ((scheduled 0x200C#16 4).withMpu { s0.mpu with cesr := 0#32 }).params.WF ∧
    ¬ ((scheduled 0x200C#16 4).withMpu { s0.mpu with cesr := 0#32 }).Legal := by decide

theorem witness_RefusalsByName_notAdmitted :
    launchable (scheduled 0x0008#16 1) ∧
    decode (scheduled 0x0008#16 1).params { key := 0x0008#16, size := 1, opA := 0x41#32, opB := 1#32 } =
      .error .sizeNotAdmitted := ⟨⟨by decide, by decide⟩, by decide⟩

theorem witness_RefusalsByName_notCreated :
    launchable { scheduled 0x200C#16 4 with created := { uart := false, can := true, mpu := true } } ∧
    decode p0 { key := 0x200C#16, size := 4, opA := 0x41#32, opB := 1#32 } = .ok (.wrUartData 0x41#32) ∧
    hasDevice { uart := false, can := true, mpu := true } (Instr.wrUartData 0x41#32).device = false :=
  ⟨⟨by decide, by decide⟩, by decide, by decide⟩

theorem witness_EveryTransactionCompletes :
    acceptRequest (scheduled 0x0008#16 1) { key := 0x0008#16, size := 1, opA := 0x41#32, opB := 1#32 } =
      .error (.notAdmitted .sizeNotAdmitted) := by decide

theorem witness_EveryTransactionCompletes_kinds :
    (Instr.wrCanMcr 0#32).isWrite = true ∧ (Instr.chk 0#32 0#32).isCheck = true ∧
    Instr.rdCanMcr.isWrite = false ∧ Instr.rdCanMcr.isCheck = false := by decide

/-- The four variants of UART STATUS writing: each is some well-formed record's. -/
theorem witness_UartStatusWriteModes :
    p0.uartStatusWriteMode = .clear ∧ p0.uartStatusWriteLowersIrq = true ∧
    (withParams s0 fun p => { p with uartStatusWriteMode := .verbatim, uartStatusWriteLowersIrq := false }).params.WF ∧
    (0xFFFFFFFE#32 : Word) = 0xFFFFFFFF#32 &&& 0xFFFFFFFE#32 := by decide

theorem witness_UartDataWrites :
    (uartIe false).uart.interruptEnabled = true ∧ s0.uart.interruptEnabled = false := by decide

theorem witness_UartInterruptGating_asserts :
    (uartIe false).Legal ∧ (∃ t, exec (.wrUartData 5#32) (uartIe false) = .next t) ∧
    (uartIe false).uart.control.getLsbD 1 = true := ⟨by decide, ⟨_, rfl⟩, by decide⟩

theorem witness_UartInterruptGating_stays :
    (withParams uartAsserted fun p => { p with uartStatusWriteLowersIrq := false }).Legal ∧
    (withParams uartAsserted fun p => { p with uartStatusWriteLowersIrq := false }).params.uartStatusWriteLowersIrq =
      false ∧
    (withParams uartAsserted fun p => { p with uartStatusWriteLowersIrq := false }).uart.irqLevel = true ∧
    ∃ t, exec (.wrUartStatus 0#32) (withParams uartAsserted fun p => { p with uartStatusWriteLowersIrq := false }) =
      .next t := ⟨by decide, by decide, by decide, _, rfl⟩

theorem witness_UartTransmitRoundTrip :
    ∀ w : Word, Instr.wrUartStatus w ∉ [.rdUartStatus, .wrUartData 7#32, .chk 0#32 1#32] := by simp

theorem witness_UartStatusStaysClear :
    s0.params.uartStatusWriteMode = .clear ∧
    ∀ w : Word, Instr.wrUartData w ∉ [.wrUartCtrl 2#32, .rdUartStatus, .wrCanTxbuf 1#32] := by
  exact ⟨by decide, by simp⟩

theorem witness_UartFollowsStateMachine :
    s0.params.uartStatusWriteMode = .clear ∧ s0.params.uartStatusWriteLowersIrq = true ∧
    ∃ t, exec (.wrUartStatus 1#32) s0 = .next t := ⟨by decide, by decide, _, rfl⟩

theorem witness_CanStatusAndIrqReads :
    s0.params.canStatusReadMode = .forceTxReady ∧
    (withParams s0 fun p => { p with canStatusReadMode := .stored }).params.canStatusReadMode = .stored := by decide

theorem witness_CanMcrAndStatusWrites :
    s0.params.canStatusWriteLowersIrq = false ∧
    (withParams s0 fun p => { p with canStatusWriteLowersIrq := true }).params.canStatusWriteLowersIrq = true := by
  decide

theorem witness_CanTxbufWrite_and_CanLoopback :
    (canWith 0x4#32 1#32).can.ctrl.getLsbD 2 = true ∧ (canWith 0xFFFFFFFB#32 1#32).can.ctrl.getLsbD 2 = false := by
  decide

theorem witness_CanIrqWriteModes :
    s0.params.canIrqWrite = .ignore ∧
    (withParams s0 fun p => { p with canIrqWrite := .store }).params.canIrqWrite = .store := by decide

theorem witness_CanFollowsStateMachine_and_CanLineStaysAsserted :
    s0.params.canStatusWriteLowersIrq = false ∧ ∃ t, exec (.wrCanTxbuf 1#32) s0 = .next t := ⟨by decide, _, rfl⟩

/-- A denied gated read at the last byte of a region, and an allowed one just past its end. -/
theorem witness_MpuGatedRead :
    (∃ r, (r = s0.mpu.region0 ∨ r = s0.mpu.region1) ∧ r.base.toNat ≤ (0xFFC#12 : Offset).toNat ∧
      (0xFFC#12 : Offset).toNat < r.base.toNat + 0x1000 ∧ r.attr &&& p0.permRead = 0#32) ∧
    (∀ r, (r = (mpuWith 0x10#32 0#32 0x2000#32 0#32).mpu.region0 ∨
        r = (mpuWith 0x10#32 0#32 0x2000#32 0#32).mpu.region1) → r.base.toNat ≤ (0x00F#12 : Offset).toNat →
      (0x00F#12 : Offset).toNat < r.base.toNat + 0x1000 → r.attr &&& p0.permRead ≠ 0#32) := by
  refine ⟨⟨s0.mpu.region0, by decide⟩, ?_⟩
  rintro r (rfl | rfl) h
  · exact absurd h (by decide)
  · exact absurd h (by decide)

theorem witness_CheckPortAnswers :
    allowed s0.params s0.mpu 0x1000#32 1#32 = true ∧ allowed s0.params s0.mpu 0xFFF#32 1#32 = false ∧
    s0.params.mpuCheckRecords = false ∧
    allowed (withParams s0 fun p => { p with mpuCheckRecords := true }).params s0.mpu 0xFFF#32 1#32 = false := by
  decide

theorem witness_AllowedIffEveryMatchGrants : p0.regionEndWraps = false := by decide

/-- V-CHK-13 and the clause for either end arithmetic: wrapped, the top region is none of the matching ones. -/
theorem test_wrapped_region_never_matches :
    inRegion { p0 with regionEndWraps := true } 0xFFFFFFFF#32 0xFFFFF000#32 = false ∧
    inRegion p0 0xFFFFFFFF#32 0xFFFFF000#32 = true := by decide

/-- A gated read under the wrapped arithmetic, denied as at reset (R142, R140). -/
theorem test_rd_gated_wrapped :
    (perform (withParams s0 fun p => { p with regionEndWraps := true }) 0x8FFC#16 0#32 0#32).map
      (fun t => (t.mpu.ear, t.mpu.edr)) = some (0xFFC#32, 0xDEAD#32) := by decide

theorem witness_OnlyLowRequestBitsCount :
    mpuLegal s0.mpu ∧ (0xFFFFFFF0#32 : Word) &&& 0x0000000F#32 = 0#32 ∧
    inRegion p0 0xFFF#32 s0.mpu.region0.base = true := by decide

theorem witness_RegionMatchesItsInterval :
    p0.regionEndWraps = false ∧ regionLegal { base := 0xFFFFFFF0#32, attr := 0xF#32 } ∧
    inRegion p0 0x100F#32 0x10#32 = true ∧ inRegion p0 0x1010#32 0x10#32 = false ∧
    inRegion p0 0x00F#32 0x10#32 = false := by decide

/-- The base where the clauses meet, and the one below it. -/
theorem witness_RegionEndAtTheTop :
    (0xFFFFF000 ≤ (0xFFFFF000#32 : Word).toNat) ∧ ((0xFFFFEFFF#32 : Word).toNat < 0xFFFFF000) ∧
    Params.regionEndWraps { p0 with regionEndWraps := true } = true ∧
    inRegion { p0 with regionEndWraps := true } 0xFFFFF000#32 0xFFFFF000#32 = false ∧
    inRegion { p0 with regionEndWraps := true } 0xFFFFFFFE#32 0xFFFFEFFF#32 = true ∧
    inRegion p0 0xFFFFFFFF#32 0xFFFFF000#32 = true := by decide

/-- The created MPU, and one whose CESR, EAR and EDR have been written since. -/
theorem witness_DefaultRegionDenial :
    s0.mpu.region0 = { base := 0#32, attr := 0#32 } ∧ s0.mpu.region1 = { base := 0#32, attr := 0#32 } ∧
    Mpu.region0 { s0.mpu with cesr := 0x11#32, ear := 0x100#32, edr := 0xDEAD#32 } =
      { base := 0#32, attr := 0#32 } := ⟨rfl, rfl, rfl⟩

/-- V-MPU-20 from reset: the later of two denied reads stays in EAR. -/
theorem test_second_denied_read :
    ((perform s0 0x8100#16 0#32 0#32).bind fun t => perform t 0x8200#16 0#32 0#32).map (fun t => t.mpu.ear) =
      some 0x200#32 := by decide

/-- L1-6, instance A: region 0 gates. -/
theorem witness_RegionGating_region0 :
    (mpuWith 0x2000#32 1#32 0#32 0#32).params.PermsValid ∧ p0.regionEndWraps = false ∧
    p0.permRead &&& p0.permWrite = 0#32 ∧ (mpuWith 0x2000#32 1#32 0#32 0#32).mpu.region0.attr = p0.permRead ∧
    inRegion p0 0x2000#32 (mpuWith 0x2000#32 1#32 0#32 0#32).mpu.region1.base = false ∧
    p0.mpuCheckRecords = false := by decide

/-- The same with region 1, at the last base a wrapping end admits, recording, region 0 granting READ there too. -/
theorem witness_RegionGating_region1 :
    (mpuWith 0xFFFFEFF0#32 9#32 0xFFFFEFF0#32 1#32).mpu.region1.attr = p0.permRead ∧
    (0xFFFFEFF0#32 : Word).toNat < 0xFFFFF000 ∧
    inRegion { p0 with regionEndWraps := true } 0xFFFFEFF0#32 0xFFFFEFF0#32 = true ∧
    (9#32 : Word) &&& p0.permRead ≠ 0#32 ∧
    Params.mpuCheckRecords { p0 with mpuCheckRecords := true } = true := by decide

theorem witness_MpuEnableIsOneWay_kept :
    s0.mpu.cesr.getLsbD 0 = true ∧ ∃ t, exec (.wrMpuCesr 0#32) s0 = .next t := ⟨by decide, _, rfl⟩

theorem witness_MpuEnableIsOneWay_refused :
    ((scheduled 0x8000#16 4).withMpu { s0.mpu with cesr := 0xFFFFFFFE#32 }).mpu.cesr.getLsbD 0 = false ∧
    ((scheduled 0x8000#16 4).withMpu { s0.mpu with cesr := 0xFFFFFFFE#32 }).schedule ≠ [] := by decide

theorem witness_OnlyDeniedReadChangesState :
    (Instr.rdMpuGated 0x01C#12).isWrite = false ∧ (Instr.rdMpuGated 0x01C#12).isCheck = false ∧
    ∃ t u, exec (.rdMpuGated 0x01C#12) s0 = .next t ∧ exec (.rdMpuGated 0x01C#12) t = .next u :=
  ⟨by decide, by decide, _, _, rfl, rfl⟩

theorem witness_RepeatedWriteKeepsState :
    (Instr.wrUartData 0x41#32).isWrite = true ∧
    ∃ t u, exec (.wrUartData 0x41#32) s0 = .next t ∧ exec (.wrUartData 0x41#32) t = .next u :=
  ⟨by decide, _, _, rfl, rfl⟩

theorem witness_DevicesAreIndependent :
    s0.params = canAsserted.params ∧ sameDevice (Instr.wrUartData 1#32).device s0 canAsserted ∧
    (∃ t, exec (.wrUartData 1#32) s0 = .next t) ∧ ∃ t, exec (.wrUartData 1#32) canAsserted = .next t :=
  ⟨by decide, ⟨fun _ => rfl, by decide, by decide⟩, ⟨_, rfl⟩, _, rfl⟩

theorem witness_OpenParametersAreInvisible_and_MpuLineNeverAsserted :
    ∃ t, exec (.rdMpuGated 0x100#12) s0 = .next t := ⟨_, rfl⟩

theorem witness_AtMostOneInterruptEvent :
    ∃ t, exec (.wrUartData 0x41#32) (uartIe true) = .next t ∧ t.out = [] ++ .emit 0x41#8 :: .irqAssert .uart :: [] ∧
      (Event.irqAssert .uart).isInterrupt = true := ⟨_, rfl, by decide, by decide⟩

theorem witness_UartPlainReads_and_MpuConfigurationReads :
    s0.Legal ∧ s0.params.uartStatusWriteMode = .clear := by decide

theorem witness_MpuConfigurationWrites :
    inRegion p0 0xFFF#32 s0.mpu.region0.base = true ∧ inRegion p0 0xFFF#32 s0.mpu.region1.base = true := by decide

/-- EAR and EDR written by a denied read, and by a recording denied check. -/
theorem witness_FaultRecordWriters :
    (∃ t, exec (.rdMpuGated 0xFFC#12) s0 = .next t) ∧ allowed p0 s0.mpu 0xFFC#32 p0.permRead = false ∧
    ∃ t, exec (.chk 0xFFF#32 1#32) (withParams s0 fun p => { p with mpuCheckRecords := true }) = .next t :=
  ⟨⟨_, rfl⟩, by decide, _, rfl⟩

theorem witness_InertRegisters :
    (∃ t, exec (.chk 0x1000#32 1#32) s0 = .next t) ∧
    Instr.chk 0x1000#32 1#32 ≠ .rdMpuCesr ∧ (∀ v : Word, Instr.chk 0x1000#32 1#32 ≠ .wrMpuCesr v) ∧
    Instr.chk 0x1000#32 1#32 ≠ .rdUartBaud ∧ (∀ v : Word, Instr.chk 0x1000#32 1#32 ≠ .wrUartBaud v) ∧
    Instr.chk 0x1000#32 1#32 ≠ .rdCanMcr ∧ (∀ v : Word, Instr.chk 0x1000#32 1#32 ≠ .wrCanMcr v) ∧
    Instr.chk 0x1000#32 1#32 ≠ .rdCanIrq ∧ (∀ v : Word, Instr.chk 0x1000#32 1#32 ≠ .wrCanIrq v) := by
  exact ⟨⟨_, rfl⟩, by simp, by simp, by simp, by simp, by simp, by simp, by simp, by simp⟩

/-- The statement's one hypothesis is met by a member of its list. -/
theorem witness_ReadBackAfterWrite (h : Obligations.ReadBackAfterWrite) :
    readsBack (.wrMpuRgn1Attr 0x17#32) .rdMpuRgn1Attr (0x17#32 &&& 0x0000000F#32) s0 :=
  h s0 0x17#32 _ _ _ (by simp)

end Sys2Proof.Tests
end

/-! PROOFS. The family 10_state.md: creation, the fault record, and the registers that no other transaction looks at. -/

namespace Sys2Proof.Machine

/-! ### The transactions whose rules have two cases, one equation each -/

/-- R103: what STATUS becomes, and whether the line is lowered (D13). -/
theorem exec_wrUartStatus (v : Word) (s : State) :
    exec (.wrUartStatus v) s =
      let stored := s.withUart
        { s.uart with status := storedUartStatus s.params.uartStatusWriteMode s.uart.status v }
      if s.params.uartStatusWriteLowersIrq then .next (stored.irqDeassert .uart) else .next stored := by
  simp only [exec, execWrUartStatus]
  split <;> rfl

/-- R104: step 3 sets TX_COMPLETE, so that step 4 drives the line exactly when the interrupt is enabled. -/
theorem exec_wrUartData (v : Word) (s : State) :
    exec (.wrUartData v) s =
      let sent := (s.withUart { s.uart with data := v, status := setTxComplete s.uart.status }).emitByte (txByte v)
      if s.uart.interruptEnabled then .next (sent.irqAssert .uart) else .next sent := by
  simp only [exec, execWrUartData, State.withUart_uart, State.emitByte_uart, txComplete_set, Bool.and_true]
  split <;> rfl

/-- R120: the verbatim store, and whether the line is lowered (D14). -/
theorem exec_wrCanStatus (v : Word) (s : State) :
    exec (.wrCanStatus v) s =
      let stored := s.withCan { s.can with status := v }
      if s.params.canStatusWriteLowersIrq then .next (stored.irqDeassert .can) else .next stored := by
  simp only [exec, execWrCanStatus]
  split <;> rfl

/-- R121: the receive buffer is loaded exactly when LOOPBACK is set; the line is driven in either case. -/
theorem exec_wrCanTxbuf (v : Word) (s : State) :
    exec (.wrCanTxbuf v) s =
      let sent := { s.can with txBuf := v, status := setTxReady s.can.status }
      if loopback s.can.ctrl then
        .next ((s.withCan { sent with rxBuf := v, status := setRxReady sent.status }).irqAssert .can)
      else .next ((s.withCan sent).irqAssert .can) := by
  by_cases hl : loopback s.can.ctrl = true <;>
    simp only [exec, execWrCanTxbuf, State.withCan_can, hl, if_true] <;> rfl

/-- R124: stored or ignored (D15). -/
theorem exec_wrCanIrq (v : Word) (s : State) :
    exec (.wrCanIrq v) s =
      if s.params.canIrqWrite = .store then .next (s.withCan { s.can with irqReg := v })
      else .next (s.logRecord .invalidWrite s.params.canOffIrq) := by
  simp only [exec, execWrCanIrq]
  cases s.params.canIrqWrite <;> rfl

/-- R142 to R144: the gated read, granted or denied. -/
theorem exec_rdMpuGated (off : Offset) (s : State) :
    exec (.rdMpuGated off) s =
      if allowed s.params s.mpu (offsetAddress off) s.params.permRead then
        .next ((s.logRecord .invalidRead off).answer (.data invalidData))
      else
        .next (((s.recordViolation (offsetAddress off)).logRecord .protectionViolation off).answer
          (.data invalidData)) :=
  rfl

/-- R153: the check records exactly a denial, and only under `P_MPU_CHECK_RECORDS` (D17). -/
theorem exec_chk (a req : Word) (s : State) :
    exec (.chk a req) s =
      let verdict := Reply.verdict (allowed s.params s.mpu a req)
      if !allowed s.params s.mpu a req && s.params.mpuCheckRecords then
        .next ((s.recordViolation a).answer verdict)
      else .next (s.answer verdict) := by
  simp only [exec, execChk]
  split <;> rfl

/-- A transaction that completes in the very state claimed completes so with log records aside. -/
theorem completesAs_of_exec {i : Instr} {s t : State} (h : exec i s = .next t) : completesAs i s t :=
  ⟨t, h, rfl⟩

/-! ### Creation, the DATA read, the EAR and EDR writes -/

/-- Settles O1: `State.resetWith` does not look at the record it carries. -/
theorem creationState : Obligations.CreationState :=
  ⟨fun _ => ⟨rfl, rfl, rfl⟩, PlatformParams.placeholder, rfl⟩

/-- Settles O14, by the read's one equation. -/
theorem uartDataReadBack : Obligations.UartDataReadBack :=
  fun _ => completesAs_of_exec rfl

/-- Settles O36, by the two writes' equations. -/
theorem mpuFaultRegisterWrites : Obligations.MpuFaultRegisterWrites :=
  fun _ _ => ⟨completesAs_of_exec rfl, completesAs_of_exec rfl⟩

/-! ### The fault record -/

/-- R36, R37: what EAR and EDR hold after a transaction. Only the transactions with two cases need a case split; of those, the
gated read and the check write the record in one of their cases. -/
theorem faultRecord_of_exec {i : Instr} {s t : State} (h : exec i s = .next t) :
    (t.mpu.ear, t.mpu.edr) = faultRecordAfter s i := by
  cases i with
  | rdMpuGated off =>
    rw [exec_rdMpuGated] at h
    split at h <;> rename_i hc <;> cases h
    · exact (if_pos hc).symm
    · exact (if_neg hc).symm
  | chk a req =>
    rw [exec_chk] at h
    split at h <;> rename_i hc <;> cases h
    · exact (if_pos hc).symm
    · exact (if_neg hc).symm
  | wrUartStatus v => rw [exec_wrUartStatus] at h; split at h <;> cases h <;> rfl
  | wrUartData v => rw [exec_wrUartData] at h; split at h <;> cases h <;> rfl
  | wrCanStatus v => rw [exec_wrCanStatus] at h; split at h <;> cases h <;> rfl
  | wrCanTxbuf v => rw [exec_wrCanTxbuf] at h; split at h <;> cases h <;> rfl
  | wrCanIrq v => rw [exec_wrCanIrq] at h; split at h <;> cases h <;> rfl
  | _ => cases h; rfl

/-- Settles O53: creation and the two reads by evaluation, the writers by `faultRecord_of_exec`. -/
theorem faultRecordWriters : Obligations.FaultRecordWriters :=
  ⟨fun _ => ⟨rfl, rfl⟩, fun _ => ⟨completesAs_of_exec rfl, completesAs_of_exec rfl⟩,
    fun _ _ _ h => faultRecord_of_exec h⟩

/-! ### The inert registers -/

/-- The registers whose value no transaction but their own read and write depends on (R22, D31, D15, D20). -/
inductive InertRegister where
  /-- UART BAUD (R22). -/
  | baud
  /-- CAN MCR (R28, D31). -/
  | mcr
  /-- The CAN IRQ register (R33, D15). -/
  | canIrq
  /-- MPU CESR (R35, D20). -/
  | cesr

/-- The read of an inert register. -/
def InertRegister.read : InertRegister → Instr
  | .baud   => .rdUartBaud
  | .mcr    => .rdCanMcr
  | .canIrq => .rdCanIrq
  | .cesr   => .rdMpuCesr

/-- The write of an inert register. -/
def InertRegister.write : InertRegister → Word → Instr
  | .baud   => .wrUartBaud
  | .mcr    => .wrCanMcr
  | .canIrq => .wrCanIrq
  | .cesr   => .wrMpuCesr

/-- The state with the value of an inert register replaced. -/
def State.withInert (r : InertRegister) (x : Word) (s : State) : State :=
  match r with
  | .baud   => s.withUart { s.uart with baudRate := x }
  | .mcr    => s.withCan { s.can with mcr := x }
  | .canIrq => s.withCan { s.can with irqReg := x }
  | .cesr   => s.withMpu { s.mpu with cesr := x }

/-- Replacing a part of the next state, in each of two cases. -/
theorem ite_next_map {c : Prop} [Decidable c] {a b t : State} (f : State → State)
    (h : (if c then .next a else .next b : Result) = .next t) :
    (if c then .next (f a) else .next (f b) : Result) = .next (f t) := by
  split at h <;> rename_i hc <;> cases h
  · exact if_pos hc
  · exact if_neg hc

/-- Noninterference: a transaction other than the register's own read and write commutes with replacing its value. In
the transactions with two cases the condition does not look at the register; for the gated read and the check that is
because `allowed` reads the descriptors only (R141). -/
theorem exec_withInert {i : Instr} {s t : State} (r : InertRegister) (x : Word) (h : exec i s = .next t)
    (hr : i ≠ r.read) (hw : ∀ v, i ≠ r.write v) : exec i (s.withInert r x) = .next (t.withInert r x) := by
  cases i with
  | wrUartStatus v =>
    rw [exec_wrUartStatus] at h ⊢
    replace h := ite_next_map (State.withInert r x) h
    cases r <;> exact h
  | wrUartData v =>
    rw [exec_wrUartData] at h ⊢
    replace h := ite_next_map (State.withInert r x) h
    cases r <;> exact h
  | wrCanStatus v =>
    rw [exec_wrCanStatus] at h ⊢
    replace h := ite_next_map (State.withInert r x) h
    cases r <;> exact h
  | wrCanTxbuf v =>
    rw [exec_wrCanTxbuf] at h ⊢
    replace h := ite_next_map (State.withInert r x) h
    cases r <;> exact h
  | rdMpuGated off =>
    rw [exec_rdMpuGated] at h ⊢
    replace h := ite_next_map (State.withInert r x) h
    cases r <;> exact h
  | chk a req =>
    rw [exec_chk] at h ⊢
    replace h := ite_next_map (State.withInert r x) h
    cases r <;> exact h
  | wrCanIrq v =>
    rw [exec_wrCanIrq] at h ⊢
    replace h := ite_next_map (State.withInert r x) h
    cases r with
    | canIrq => exact absurd rfl (hw v)
    | _ => exact h
  | rdUartBaud => cases r with
    | baud => exact absurd rfl hr
    | _ => cases h; rfl
  | rdCanMcr => cases r with
    | mcr => exact absurd rfl hr
    | _ => cases h; rfl
  | rdCanIrq => cases r with
    | canIrq => exact absurd rfl hr
    | _ => cases h; rfl
  | rdMpuCesr => cases r with
    | cesr => exact absurd rfl hr
    | _ => cases h; rfl
  | wrUartBaud v => cases r with
    | baud => exact absurd rfl (hw v)
    | _ => cases h; rfl
  | wrCanMcr v => cases r with
    | mcr => exact absurd rfl (hw v)
    | _ => cases h; rfl
  | wrMpuCesr v => cases r with
    | cesr => exact absurd rfl (hw v)
    | _ => cases h; rfl
  | _ => cases h; cases r <;> rfl

/-- Settles O54: `exec_withInert` at each of the four registers. -/
theorem inertRegisters : Obligations.InertRegisters :=
  fun _ _ _ x h =>
    ⟨fun hr hw => completesAs_of_exec (exec_withInert .baud x h hr hw),
      fun hr hw => completesAs_of_exec (exec_withInert .mcr x h hr hw),
      fun hr hw => completesAs_of_exec (exec_withInert .canIrq x h hr hw),
      fun hr hw => completesAs_of_exec (exec_withInert .cesr x h hr hw)⟩

end Sys2Proof.Machine

/-! PROOFS. The family 20_memory.md: one step and its transaction, what a transaction puts out, and the independence of the
three devices. -/

namespace Sys2Proof.Machine

/-! ### One step, and the UART DATA write -/

/-- Settles O8: the four premises are what admission asks for. -/
theorem stepRunsDecodedTransaction : Obligations.StepRunsDecodedTransaction :=
  fun _ _ _ _ hs ⟨hwf, hl⟩ hd hc => step_of_admitted hs (acceptRequest_of hwf hl hd hc)

/-- Settles O17, by the two cases of `exec_wrUartData`. -/
theorem uartDataWriteTransmits : Obligations.UartDataWriteTransmits := by
  intro s v
  constructor <;> intro hie <;> apply completesAs_of_exec
  · rw [exec_wrUartData, if_pos hie, List.append_cons]
    rfl
  · rw [exec_wrUartData, if_neg (by simp [hie])]
    rfl

/-! ### The events of one transaction -/

/-- What a transaction appends to the output list, oldest event first, log records included. -/
def eventsOf (s : State) : Instr → List Event
  | .wrUartStatus _          => if s.params.uartStatusWriteLowersIrq then [.irqDeassert .uart] else []
  | .wrUartData v            =>
    if s.uart.interruptEnabled then [.emit (txByte v), .irqAssert .uart] else [.emit (txByte v)]
  | .rdUartInvalid off       => [.log .invalidRead off]
  | .wrUartInvalid off _     => [.log .invalidWrite off]
  | .wrCanStatus _           => if s.params.canStatusWriteLowersIrq then [.irqDeassert .can] else []
  | .wrCanTxbuf _            => [.irqAssert .can]
  | .wrCanIrq _              => if s.params.canIrqWrite = .store then [] else [.log .invalidWrite s.params.canOffIrq]
  | .rdCanInvalid off        => [.log .invalidRead off]
  | .wrCanInvalid off _      => [.log .invalidWrite off]
  | .rdMpuGated off          =>
    if allowed s.params s.mpu (offsetAddress off) s.params.permRead then [.log .invalidRead off]
    else [.log .protectionViolation off]
  | .wrMpuUnauthorized off _ => [.log .unauthorizedWrite off]
  | _                        => []

/-- What is put out in each of two cases. -/
theorem ite_next_out {c : Prop} [Decidable c] {s a b t : State} {es fs : List Event}
    (h : (if c then .next a else .next b : Result) = .next t) (ha : a.out = s.out ++ es) (hb : b.out = s.out ++ fs) :
    t.out = s.out ++ if c then es else fs := by
  split at h <;> rename_i hc <;> cases h
  · rw [if_pos hc, ha]
  · rw [if_neg hc, hb]

/-- A transaction only appends to the output list, and appends `eventsOf` (R63). -/
theorem out_of_exec {i : Instr} {s t : State} (h : exec i s = .next t) : t.out = s.out ++ eventsOf s i := by
  cases i with
  | wrUartStatus v =>
    rw [exec_wrUartStatus] at h
    exact ite_next_out h rfl (List.append_nil _).symm
  | wrUartData v =>
    rw [exec_wrUartData] at h
    exact ite_next_out h (List.append_cons ..).symm rfl
  | wrCanStatus v =>
    rw [exec_wrCanStatus] at h
    exact ite_next_out h rfl (List.append_nil _).symm
  | wrCanTxbuf v => rw [exec_wrCanTxbuf] at h; split at h <;> cases h <;> rfl
  | wrCanIrq v =>
    rw [exec_wrCanIrq] at h
    exact ite_next_out h (List.append_nil _).symm rfl
  | rdMpuGated off =>
    rw [exec_rdMpuGated] at h
    exact ite_next_out h rfl rfl
  | chk a req => rw [exec_chk] at h; split at h <;> cases h <;> exact (List.append_nil _).symm
  | _ => cases h; simp [eventsOf]

/-- A transaction puts out nothing, one event, or a byte and then the assertion of the UART line (R104, R106). -/
theorem eventsOf_cases (s : State) (i : Instr) :
    eventsOf s i = [] ∨ (∃ e, eventsOf s i = [e]) ∨ ∃ b : Byte, eventsOf s i = [.emit b, .irqAssert .uart] := by
  cases i with
  | wrUartData v =>
    simp only [eventsOf]
    split
    · exact .inr (.inr ⟨_, rfl⟩)
    · exact .inr (.inl ⟨_, rfl⟩)
  | wrUartStatus _ | wrCanStatus _ | wrCanIrq _ | rdMpuGated _ =>
    simp only [eventsOf]
    split <;> simp
  | _ => simp [eventsOf]

/-- The order R106 asks for: `f` may leave after `e` unless `e` is an interrupt event and `f` an emission. -/
def Event.mayPrecede (e f : Event) : Prop := e.isInterrupt = true → ∀ b : Byte, f ≠ .emit b

/-- No byte leaves after an interrupt event of the same transaction. -/
theorem eventsOf_pairwise_mayPrecede (s : State) (i : Instr) : (eventsOf s i).Pairwise Event.mayPrecede := by
  obtain h | ⟨e, h⟩ | ⟨b, h⟩ := eventsOf_cases s i <;> rw [h]
  · exact .nil
  · exact List.pairwise_singleton _ _
  · exact List.pairwise_pair.mpr fun hb => nomatch hb

/-- A transaction drives at most one line, at most once (R166). -/
theorem eventsOf_interrupts_le_one (s : State) (i : Instr) : ((eventsOf s i).filter Event.isInterrupt).length ≤ 1 := by
  obtain h | ⟨e, h⟩ | ⟨b, h⟩ := eventsOf_cases s i <;> rw [h]
  · exact Nat.zero_le 1
  · exact List.length_filter_le _ [e]
  · exact Nat.le_refl 1

/-- Settles O52: the appended list is `eventsOf`; the events after an interrupt event stand in `mayPrecede` to it. -/
theorem atMostOneInterruptEvent : Obligations.AtMostOneInterruptEvent := by
  intro i s t h
  refine ⟨eventsOf s i, out_of_exec h, eventsOf_interrupts_le_one s i, ?_⟩
  intro l₁ l₂ e hl he b hb
  have hp : (l₁ ++ e :: l₂).Pairwise Event.mayPrecede := hl ▸ eventsOf_pairwise_mayPrecede s i
  have hafter : ∀ f ∈ l₂, e.mayPrecede f := (List.pairwise_cons.mp (List.pairwise_append.mp hp).2.1).1
  exact hafter _ hb he b rfl

/-! ### The independence of the devices

A transaction of device `d` works on the parameters and the record of `d` alone, and appends to the two channels. So it commutes
with putting these into any surroundings: `State.embed`. -/

/-- Every transaction completes (R158). -/
theorem exec_completes (i : Instr) (s : State) : ∃ t, exec i s = .next t := by
  cases i with
  | rdMpuGated off => rw [exec_rdMpuGated]; split <;> exact ⟨_, rfl⟩
  | wrCanIrq v => rw [exec_wrCanIrq]; split <;> exact ⟨_, rfl⟩
  | _ => exact ⟨_, rfl⟩

/-- The surroundings `c` with the parameters and the record of `d` taken from `s`, and what `s` put out and handed back appended
to the channels of `c`. -/
def State.embed (c : State) (d : Device) (s : State) : State where
  params   := s.params
  created  := c.created
  uart     := if d = .uart then s.uart else c.uart
  can      := if d = .can then s.can else c.can
  mpu      := if d = .mpu then s.mpu else c.mpu
  out      := c.out ++ s.out
  replies  := c.replies ++ s.replies
  schedule := c.schedule

theorem State.embed_answer (c : State) (d : Device) (s : State) (r : Reply) :
    c.embed d (s.answer r) = (c.embed d s).answer r := by
  simp [State.embed, State.answer]

theorem State.embed_output (c : State) (d : Device) (s : State) (e : Event) :
    c.embed d (s.output e) = (c.embed d s).output e := by
  simp [State.embed, State.output]

theorem State.embed_emitByte (c : State) (d : Device) (s : State) (b : Byte) :
    c.embed d (s.emitByte b) = (c.embed d s).emitByte b :=
  c.embed_output d s _

theorem State.embed_logRecord (c : State) (d : Device) (s : State) (k : LogKind) (off : Offset) :
    c.embed d (s.logRecord k off) = (c.embed d s).logRecord k off :=
  c.embed_output d s _

theorem State.embed_driveLine (c : State) (d : Device) (s : State) (level : Bool) :
    c.embed d (s.driveLine d level) = (c.embed d s).driveLine d level := by
  cases d <;> rfl

theorem State.embed_irqAssert (c : State) (d : Device) (s : State) :
    c.embed d (s.irqAssert d) = (c.embed d s).irqAssert d := by
  rw [State.irqAssert, State.embed_output, State.embed_driveLine, ← State.irqAssert]

theorem State.embed_irqDeassert (c : State) (d : Device) (s : State) :
    c.embed d (s.irqDeassert d) = (c.embed d s).irqDeassert d := by
  rw [State.irqDeassert, State.embed_output, State.embed_driveLine, ← State.irqDeassert]

/-- Noninterference: a transaction commutes with embedding its device into any surroundings. Its case conditions read only the
parameters and its own device's record. -/
theorem exec_embed {i : Instr} {s t : State} (c : State) (h : exec i s = .next t) :
    exec i (c.embed i.device s) = .next (c.embed i.device t) := by
  cases i with
  | wrUartStatus v =>
    rw [exec_wrUartStatus] at h ⊢
    replace h := ite_next_map (c.embed .uart) h
    rw [State.embed_irqDeassert] at h
    exact h
  | wrUartData v =>
    rw [exec_wrUartData] at h ⊢
    replace h := ite_next_map (c.embed .uart) h
    rw [State.embed_irqAssert, State.embed_emitByte] at h
    exact h
  | wrCanStatus v =>
    rw [exec_wrCanStatus] at h ⊢
    replace h := ite_next_map (c.embed .can) h
    rw [State.embed_irqDeassert] at h
    exact h
  | wrCanTxbuf v =>
    rw [exec_wrCanTxbuf] at h ⊢
    replace h := ite_next_map (c.embed .can) h
    rw [State.embed_irqAssert, State.embed_irqAssert] at h
    exact h
  | wrCanIrq v =>
    rw [exec_wrCanIrq] at h ⊢
    replace h := ite_next_map (c.embed .can) h
    rw [State.embed_logRecord] at h
    exact h
  | rdMpuGated off =>
    rw [exec_rdMpuGated] at h ⊢
    replace h := ite_next_map (c.embed .mpu) h
    rw [State.embed_answer, State.embed_logRecord, State.embed_answer, State.embed_logRecord] at h
    exact h
  | chk a req =>
    rw [exec_chk] at h ⊢
    replace h := ite_next_map (c.embed .mpu) h
    rw [State.embed_answer, State.embed_answer] at h
    exact h
  | _ =>
    cases h
    simp only [Instr.device, State.embed_answer, State.embed_logRecord]
    rfl

/-- The state with nothing put out or handed back yet. -/
def State.silenced (s : State) : State := { s with out := [], replies := [] }

/-- Surroundings that already hold the parameters and the device's record are what the silenced state embeds into. -/
theorem State.embed_silenced {d : Device} {s c : State} (hp : s.params = c.params) (hd : sameDevice d s c) :
    c.embed d s.silenced = c := by
  obtain ⟨hu, hc, hm⟩ := hd
  cases d
  · simp [State.embed, State.silenced, hp, ← hu rfl]
  · simp [State.embed, State.silenced, hp, ← hc rfl]
  · simp [State.embed, State.silenced, hp, ← hm rfl]

theorem sameDevice_refl (d : Device) (s : State) : sameDevice d s s :=
  ⟨fun _ => rfl, fun _ => rfl, fun _ => rfl⟩

theorem State.embed_sameButDevice (c : State) (d : Device) (s : State) : sameButDevice d c (c.embed d s) :=
  ⟨fun h => if_neg h, fun h => if_neg h, fun h => if_neg h⟩

theorem State.sameDevice_embed_embed (c c' : State) (d : Device) (s : State) :
    sameDevice d (c.embed d s) (c'.embed d s) := by
  refine ⟨?_, ?_, ?_⟩ <;> rintro rfl <;> rfl

/-- R73: from every state that agrees with `s` on the parameters and on the transaction's own device, the transaction leaves
the embedding of the one state `u` it leaves from the silenced `s`. -/
theorem exec_eq_embed {i : Instr} {s u c t : State} (hu : exec i s.silenced = .next u) (hp : s.params = c.params)
    (hd : sameDevice i.device s c) (h : exec i c = .next t) : t = c.embed i.device u := by
  have he := exec_embed c hu
  rw [State.embed_silenced hp hd, h] at he
  exact Host.Outcome.next.inj he

/-- Settles O49: both runs are embeddings of one run, by `exec_eq_embed`. -/
theorem devicesAreIndependent : Obligations.DevicesAreIndependent := by
  constructor
  · intro i s t h
    obtain ⟨u, hu⟩ := exec_completes i s.silenced
    obtain rfl := exec_eq_embed hu rfl (sameDevice_refl _ s) h
    exact s.embed_sameButDevice i.device u
  · intro i s s' t t' hp hd h h'
    obtain ⟨u, hu⟩ := exec_completes i s.silenced
    obtain rfl := exec_eq_embed hu rfl (sameDevice_refl _ s) h
    obtain rfl := exec_eq_embed hu hp hd h'
    exact ⟨s.sameDevice_embed_embed s' i.device u, ⟨u.replies, rfl, rfl⟩,
      observed u.out, List.filter_append .., List.filter_append ..⟩

end Sys2Proof.Machine

/-! PROOFS. The family 30_encoding.md: the decoder and the encoder undo each other. -/

namespace Sys2Proof

/-! ### The encoding of a bus access, and of a check -/

/-- The request of a bus access: `busRead` or `busWrite` (R13, R75). -/
def busRequest (d : Device) (write : Bool) (off : Offset) (v : Word) : Request :=
  if write then busWrite d off v else busRead d off

@[simp] theorem busRequest_read (d : Device) (off : Offset) (v : Word) : busRequest d false off v = busRead d off := rfl

@[simp] theorem busRequest_write (d : Device) (off : Offset) (v : Word) :
    busRequest d true off v = busWrite d off v := rfl

theorem busRequest_key (d : Device) (w : Bool) (off : Offset) (v : Word) :
    (busRequest d w off v).key = mkKey (unitOf d) w off := by
  cases w <;> rfl

@[simp] theorem keyOffset_busRead (d : Device) (off : Offset) : keyOffset (busRead d off).key = off :=
  keyOffset_mkKey _ _ off

@[simp] theorem keyOffset_busWrite (d : Device) (off : Offset) (v : Word) : keyOffset (busWrite d off v).key = off :=
  keyOffset_mkKey _ _ off

theorem unmappedOffset_iff {p : Params} {d : Device} {off : Offset} :
    unmappedOffset p d off = true ↔ off ∉ p.offsets d ∧ off.toNat + 4 ≤ Config.windowSize := by
  simp [unmappedOffset]

/-- The window offset in the key an instruction is encoded with (R76). -/
def Instr.offset (p : Params) (i : Instr) : Offset := keyOffset (encode p i).key

/-- Every transaction but the check is encoded as an access to its own device's window, in its own direction. -/
theorem encode_of_not_check {i : Instr} (p : Params) (hc : i.isCheck = false) :
    encode p i = busRequest i.device i.isWrite (i.offset p) (encode p i).opA := by
  cases i with
  | chk a req => cases hc
  | _ => simp [encode, Instr.offset, Instr.device, Instr.isWrite, busRead, busWrite]

theorem decode_busRequest {p : Params} (h : p.SizesFixed) (d : Device) (w : Bool) {off : Offset} (v : Word)
    (hoff : off.toNat + 4 ≤ Config.windowSize) :
    decode p (busRequest d w off v) = .ok (decodeAccess p d w off v) := by
  cases w with
  | false => rw [busRequest_read, decode_busRead h d hoff]; cases d <;> rfl
  | true => exact decode_busWrite h d v hoff

/-- R77, R81: the check's key selects the check port, under every record. -/
theorem decode_checkCall (p : Params) (a req : Word) : decode p (checkCall a req) = .ok (.chk a req) := by
  simp [decode, checkCall, windowOf]

/-- R76, R77: the one key of the check port. -/
theorem checkCall_key {k : Key} (a req : Word) (hr : keyReserved k = false) (hu : windowOf (keyUnit k) = none)
    (hw : keyWrites k = false) (hoff : keyOffset k = 0#12) : (checkCall a req).key = k := by
  rw [← mkKey_fields k hr, windowOf_eq_none.mp hu, hw, hoff]
  rfl

/-! ### What an access decodes to -/

/-- The transaction `i` is one that an access to the window of `d` selects (R82). -/
structure SelectedByAccess (p : Params) (d : Device) (w : Bool) (off : Offset) (v : Word) (i : Instr) : Prop where
  isWrite    : i.isWrite = w
  isCheck    : i.isCheck = false
  encode     : encode p i = busRequest d w off v
  wellFormed : off.toNat + 4 ≤ Config.windowSize → i.wellFormed p = true

/-- In every row of the six tables: a register's row is reached at its own offset, the fallback row where all the comparisons
before it failed, which is at an unmapped offset (R82 to R85). -/
theorem decodeAccess_selected (p : Params) (d : Device) (w : Bool) (off : Offset) (v : Word) :
    SelectedByAccess p d w off v (decodeAccess p d w off v) := by
  cases d <;> cases w <;>
    simp only [decodeAccess, decodeUartRead, decodeUartWrite, decodeCanRead, decodeCanWrite, decodeMpuRead,
      decodeMpuWrite] <;>
    (repeat' split)
  all_goals
    refine ⟨rfl, rfl, ?_, fun hoff => ?_⟩
    · simp [encode, *]
    · simp [Instr.wellFormed, unmappedOffset, Params.offsets, *]

/-! ### The row an encoded access reaches -/

/-- A register's row is encoded with a mapped offset, a well-formed fallback row with an unmapped one (R82). -/
theorem offset_mem_or_unmapped {p : Params} {i : Instr} (hi : i.wellFormed p = true) (hc : i.isCheck = false) :
    i.offset p ∈ p.offsets i.device ∨ unmappedOffset p i.device (i.offset p) = true := by
  cases i with
  | chk a req => cases hc
  | rdUartInvalid | wrUartInvalid | rdCanInvalid | wrCanInvalid | rdMpuGated | wrMpuUnauthorized =>
    exact .inr (by simpa [Instr.offset, encode, Instr.device, Instr.wellFormed] using hi)
  | _ => exact .inl (by simp [Instr.offset, encode, Instr.device, Params.offsets])

/-- R9 (b), for the offsets of one device. -/
theorem fits_of_mem_offsets {p : Params} (hp : p.OffsetsInWindow) {d : Device} {off : Offset} (h : off ∈ p.offsets d) :
    off.toNat + 4 ≤ Config.windowSize := by
  simp only [Params.OffsetsInWindow, List.all_eq_true, List.mem_append, decide_eq_true_eq] at hp
  apply hp
  cases d <;> simp [h]

theorem offset_fits {p : Params} {i : Instr} (hp : p.OffsetsInWindow) (hi : i.wellFormed p = true)
    (hc : i.isCheck = false) : (i.offset p).toNat + 4 ≤ Config.windowSize := by
  obtain hmapped | hunmapped := offset_mem_or_unmapped hi hc
  · exact fits_of_mem_offsets hp hmapped
  · exact (unmappedOffset_iff.mp hunmapped).2

/-- R9 (a): the comparisons of a table that come before an offset's own all fail on it. -/
theorem later_ne_earlier {p : Params} (h : p.OffsetsDistinct) (d : Device) :
    (p.offsets d).Pairwise fun earlier later => later ≠ earlier := by
  obtain ⟨huart, hcan, hmpu⟩ := h
  cases d
  · exact huart.imp Ne.symm
  · exact hcan.imp Ne.symm
  · exact hmpu.imp Ne.symm

/-- The row that an instruction's own offset reaches is its own (R82). The comparisons before it fail: for a register's row by
`later_ne_earlier`, for a fallback row because its offset is unmapped. -/
theorem decodeAccess_offset {p : Params} {i : Instr} (hp : p.OffsetsDistinct) (hi : i.wellFormed p = true)
    (hc : i.isCheck = false) : decodeAccess p i.device i.isWrite (i.offset p) (encode p i).opA = i := by
  have huart := later_ne_earlier hp .uart
  have hcan := later_ne_earlier hp .can
  have hmpu := later_ne_earlier hp .mpu
  simp only [Params.offsets, List.pairwise_cons, List.mem_cons, List.not_mem_nil, or_false, forall_eq_or_imp, forall_eq]
    at huart hcan hmpu
  cases i with
  | chk a req => cases hc
  | _ =>
    simp only [Instr.wellFormed, unmappedOffset_iff, Params.offsets, List.mem_cons, not_or] at hi
    simp [Instr.offset, Instr.device, Instr.isWrite, encode, busWrite, decodeAccess, decodeUartRead, decodeUartWrite,
      decodeCanRead, decodeCanWrite, decodeMpuRead, decodeMpuWrite, *]

/-! ### The two statements -/

/-- Settles O4: the encoding is an access that fits its window, and its row of the table is the instruction's. -/
theorem decodeEncodeRoundTrip : Obligations.DecodeEncodeRoundTrip := by
  intro p i ⟨hdistinct, hwindow, _, _, hsizes⟩ hi
  cases hc : i.isCheck with
  | true =>
    cases i with
    | chk a req => exact decode_checkCall p a req
    | _ => cases hc
  | false =>
    rw [encode_of_not_check p hc, decode_busRequest hsizes _ _ _ (offset_fits hwindow hi hc),
      decodeAccess_offset hdistinct hi hc]

/-- Settles O5, by the two kinds of request that `decode_ok` leaves. -/
theorem decodedRequestReencodes : Obligations.DecodedRequestReencodes := by
  intro p r i ⟨_, _, _, _, hsizes⟩ h
  obtain ⟨hres, ⟨hunit, hw, hoff, rfl⟩ | ⟨d, hunit, hsize, hoff, rfl⟩⟩ := decode_ok h
  · exact ⟨rfl, checkCall_key _ _ hres hunit hw hoff, nofun, fun _ => ⟨rfl, rfl⟩, nofun⟩
  · have hsel := decodeAccess_selected p d (keyWrites r.key) (keyOffset r.key) r.opA
    have hfour : r.size = 4 := by simpa [hsizes] using hsize
    refine ⟨hsel.wellFormed (hfour ▸ hoff), ?_, fun hw => ?_, fun hc => ?_, fun _ => hfour⟩
    · rw [hsel.encode, busRequest_key, unitOf_of_windowOf hunit, mkKey_fields r.key hres]
    · rw [hsel.encode, hsel.isWrite.symm.trans hw]
      rfl
    · rw [hsel.isCheck] at hc
      cases hc

end Sys2Proof

/-! PROOFS. The family 40_uart.md: the UART's reads and writes, and what each transaction makes of TX_COMPLETE
and the line. -/

namespace Sys2Proof.Machine

/-! ### The observation of a transaction's events -/

theorem observed_append (out es : List Event) : observed (out ++ es) = observed out ++ observed es :=
  List.filter_append ..

/-- D22, R160. -/
@[simp] theorem observed_append_log (out : List Event) (k : LogKind) (off : Offset) :
    observed (out ++ [.log k off]) = observed out := by
  rw [observed_append]
  exact List.append_nil _

/-- R104, R106: the byte, then the assertion when the interrupt is enabled. -/
theorem observed_of_wrUartData {v : Word} {s t : State} (h : exec (.wrUartData v) s = .next t) :
    observed t.out =
      observed s.out ++ .emit (v.extractLsb' 0 8) :: if s.uart.interruptEnabled then [.irqAssert .uart] else [] := by
  rw [out_of_exec h, observed_append, eventsOf]
  split <;> rfl

/-- R102, R104: only a DATA write drives the UART line high, and only while the interrupt is enabled. -/
theorem irqAssert_uart_mem_eventsOf {s : State} {i : Instr} :
    Event.irqAssert .uart ∈ eventsOf s i ↔ s.uart.interruptEnabled = true ∧ ∃ v, i = .wrUartData v := by
  cases i with
  | wrUartData v => cases hie : s.uart.interruptEnabled <;> simp [eventsOf, hie]
  | wrUartStatus _ | wrCanStatus _ | wrCanIrq _ | rdMpuGated _ =>
    simp only [eventsOf]
    split <;> simp
  | _ => simp [eventsOf]

/-! ### What a transaction leaves in the UART record -/

/-- The UART record after a transaction (R101 to R104): only the UART's four writes change it. -/
def uartAfter (s : State) : Instr → Uart
  | .wrUartBaud v   => { s.uart with baudRate := v }
  | .wrUartCtrl v   => { s.uart with control := v, interruptEnabled := interruptEnable v }
  | .wrUartStatus v =>
    { s.uart with
      status   := storedUartStatus s.params.uartStatusWriteMode s.uart.status v
      irqLevel := !s.params.uartStatusWriteLowersIrq && s.uart.irqLevel }
  | .wrUartData v   =>
    { s.uart with
      data     := v
      status   := setTxComplete s.uart.status
      irqLevel := s.uart.irqLevel || s.uart.interruptEnabled }
  | _               => s.uart

theorem uart_of_exec {i : Instr} {s t : State} (h : exec i s = .next t) : t.uart = uartAfter s i := by
  cases i with
  | wrUartStatus v =>
    rw [exec_wrUartStatus] at h
    split at h <;> rename_i hc <;> cases h <;> simp [uartAfter, hc]
  | wrUartData v =>
    rw [exec_wrUartData] at h
    split at h <;> rename_i hc <;> cases h <;> simp [uartAfter, hc]
  | rdUartBaud | rdUartCtrl | rdUartStatus | rdUartData | rdUartInvalid _ | wrUartInvalid _ _ | wrUartBaud _
  | wrUartCtrl _ =>
    cases h
    rfl
  | _ => exact (devicesAreIndependent.1 _ s t h).1 nofun

/-- R8, R158: no transaction touches the parameter record, the instances or the schedule. -/
theorem sameSetup_of_exec {i : Instr} {s t : State} (h : exec i s = .next t) : sameSetup s t := by
  cases i with
  | wrUartStatus _ | wrUartData _ | wrCanStatus _ | wrCanTxbuf _ | wrCanIrq _ | rdMpuGated _ | chk _ _ =>
    simp only [exec_wrUartStatus, exec_wrUartData, exec_wrCanStatus, exec_wrCanTxbuf, exec_wrCanIrq, exec_rdMpuGated,
      exec_chk] at h
    split at h <;> cases h <;> exact ⟨rfl, rfl, rfl⟩
  | _ => cases h; exact ⟨rfl, rfl, rfl⟩

/-! ### A finite sequence of transactions -/

/-- The sequence completes (R158), and what each of its transactions keeps holds after it. -/
theorem runInstrs_keeps {P : State → Prop} {is : List Instr}
    (hkeeps : ∀ i ∈ is, ∀ {s t : State}, P s → exec i s = .next t → P t) {s : State} (h : P s) :
    ∃ t, runInstrs is s = .next t ∧ P t := by
  induction is generalizing s with
  | nil => exact ⟨s, rfl, h⟩
  | cons i is ih =>
    obtain ⟨t, ht⟩ := exec_completes i s
    simp only [runInstrs, ht]
    exact ih (fun j hj => hkeeps j (.tail i hj)) (hkeeps i (.head is) h ht)

/-! ### The DATA write's events, the line, and TX_COMPLETE -/

/-- Settles O18: the events by `observed_of_wrUartData`, what the reads see by `uart_of_exec`. -/
theorem uartDataWriteOrder : Obligations.UartDataWriteOrder := by
  intro s v
  obtain ⟨t, h⟩ := exec_completes (.wrUartData v) s
  have hout := observed_of_wrUartData h
  have huart : t.uart = uartAfter s (.wrUartData v) := uart_of_exec h
  refine ⟨t, h, fun hie => ?_, fun hie => ?_, ⟨_, rfl, ?_⟩, ⟨_, rfl, ?_⟩, ?_⟩
  · rw [hout, if_pos hie]
  · rw [hout, if_neg (by simp [hie])]
  · rw [State.answer_replies, huart]
    rfl
  · rw [State.answer_replies, huart]
    rfl
  · rw [huart]
    rfl

/-- R108: with lowering off, no transaction lowers the UART line. -/
theorem uart_line_stays {i : Instr} {s t : State} (hl : s.params.uartStatusWriteLowersIrq = false)
    (hline : s.uart.irqLevel = true) (h : exec i s = .next t) : t.uart.irqLevel = true := by
  rw [uart_of_exec h]
  cases i with
  | wrUartStatus v => simp [uartAfter, hl, hline]
  | wrUartData v => simp [uartAfter, hline]
  | _ => exact hline

/-- Settles O20: in a legal state the interrupt enable is CTRL bit 1 (R48). -/
theorem uartInterruptGating : Obligations.UartInterruptGating := by
  intro i s t ⟨⟨hie, _⟩, _⟩ h
  exact ⟨⟨eventsOf s i, out_of_exec h, hie ▸ irqAssert_uart_mem_eventsOf⟩, fun hl hline => uart_line_stays hl hline h⟩

/-- R109: TX_COMPLETE stays set over any transaction but a STATUS write. -/
theorem txComplete_stays_set {i : Instr} (hi : ∀ w, i ≠ .wrUartStatus w) {s t : State}
    (hs : txComplete s.uart.status = true) (h : exec i s = .next t) : txComplete t.uart.status = true := by
  rw [uart_of_exec h]
  cases i with
  | wrUartStatus w => exact absurd rfl (hi w)
  | wrUartData v => exact txComplete_set _
  | _ => exact hs

/-- Settles O21: the write sets TX_COMPLETE, and the transactions between keep it set. -/
theorem uartTransmitRoundTrip : Obligations.UartTransmitRoundTrip := by
  intro s v between hbetween
  obtain ⟨t, h⟩ := exec_completes (.wrUartData v) s
  have hset : txComplete t.uart.status = true := by
    rw [uart_of_exec h]
    exact txComplete_set _
  obtain ⟨u, hu, hux⟩ := runInstrs_keeps (P := fun s => txComplete s.uart.status = true)
    (fun i hi _ _ => txComplete_stays_set fun w hw => hbetween w (hw ▸ hi)) hset
  refine ⟨t, u, _, _, h, ⟨_, observed_of_wrUartData h, fun b => ?_⟩, hu, rfl, rfl, hux⟩
  split <;> simp

/-- CLEAR mode with TX_COMPLETE clear: what R110 keeps. -/
def ClearedInClearMode (s : State) : Prop :=
  s.params.uartStatusWriteMode = .clear ∧ txComplete s.uart.status = false

/-- R103: in CLEAR mode a STATUS write of any value clears TX_COMPLETE. -/
theorem clearedInClearMode_of_wrUartStatus {v : Word} {s t : State} (hm : s.params.uartStatusWriteMode = .clear)
    (h : exec (.wrUartStatus v) s = .next t) : ClearedInClearMode t := by
  rw [ClearedInClearMode, (sameSetup_of_exec h).1, uart_of_exec h, uartAfter, hm]
  exact ⟨rfl, txComplete_clear _⟩

/-- R110: a DATA write alone sets TX_COMPLETE. -/
theorem clearedInClearMode_stays {i : Instr} (hi : ∀ w, i ≠ .wrUartData w) {s t : State}
    (hs : ClearedInClearMode s) (h : exec i s = .next t) : ClearedInClearMode t := by
  obtain ⟨hm, hclear⟩ := hs
  cases i with
  | wrUartStatus v => exact clearedInClearMode_of_wrUartStatus hm h
  | wrUartData w => exact absurd rfl (hi w)
  | _ =>
    rw [ClearedInClearMode, (sameSetup_of_exec h).1, uart_of_exec h]
    exact ⟨hm, hclear⟩

/-- Settles O22: the STATUS write clears TX_COMPLETE, and the transactions between keep it clear. -/
theorem uartStatusStaysClear : Obligations.UartStatusStaysClear := by
  intro s v between hm hbetween
  obtain ⟨r, hr⟩ := exec_completes (.wrUartStatus v) s
  obtain ⟨t, ht, -, hclear⟩ := runInstrs_keeps (P := ClearedInClearMode)
    (fun i hi _ _ => clearedInClearMode_stays fun w hw => hbetween w (hw ▸ hi))
    (clearedInClearMode_of_wrUartStatus hm hr)
  refine ⟨t, _, _, ?_, rfl, rfl, hclear⟩
  simpa only [runInstrs, hr] using ht

/-! ### The plain reads and writes, and the unmapped offsets -/

/-- R76, R82: the key of an access selects what the device's table answers at the default offsets. -/
theorem selectedBy_of_access {i : Instr} {k : Key} {v : Word} (d : Device) (w : Bool) (off : Offset)
    (hk : k = mkKey (unitOf d) w off) (hoff : off.toNat + 4 ≤ Config.windowSize)
    (hi : ∀ o, decodeAccess (Params.defaults o) d w off v = i) : selectedBy i k v := by
  intro o b
  have hsizes : (Params.defaults o).SizesFixed := rfl
  simp [decode, hk, hsizes, Nat.not_lt.mpr hoff, hi]

/-- Settles O13, by each read's one equation; in a legal state STATUS is 0 or 1 in CLEAR mode (R49). -/
theorem uartPlainReads : Obligations.UartPlainReads := by
  intro s v
  refine ⟨selectedBy_of_access .uart false 0x000#12 rfl (by decide) fun _ => rfl, completesAs_of_exec rfl,
    selectedBy_of_access .uart false 0x004#12 rfl (by decide) fun _ => rfl, completesAs_of_exec rfl,
    selectedBy_of_access .uart false 0x008#12 rfl (by decide) fun _ => rfl, completesAs_of_exec rfl,
    ⟨_, rfl, rfl⟩, ⟨_, rfl, rfl⟩, fun _ => ⟨_, rfl, rfl⟩, ?_⟩
  intro ⟨⟨_, hstatus⟩, _⟩ hclear
  exact ⟨_, _, rfl, rfl, hstatus hclear⟩

/-- Settles O15, by the two writes' equations. -/
theorem uartBaudAndCtrlWrites : Obligations.UartBaudAndCtrlWrites :=
  fun _ _ =>
    ⟨selectedBy_of_access .uart true 0x000#12 rfl (by decide) fun _ => rfl, completesAs_of_exec rfl,
      selectedBy_of_access .uart true 0x004#12 rfl (by decide) fun _ => rfl, completesAs_of_exec rfl⟩

/-- Settles O19: the only event of either access is a log record. -/
theorem uartInvalidAccesses : Obligations.UartInvalidAccesses := by
  intro s off v
  constructor
  · exact ⟨_, rfl, ⟨rfl, rfl, rfl⟩, ⟨rfl, rfl, rfl⟩, rfl, observed_append_log ..⟩
  · exact ⟨_, rfl, ⟨rfl, rfl, rfl⟩, ⟨rfl, rfl, rfl⟩, rfl, observed_append_log ..⟩

end Sys2Proof.Machine

/-! PROOFS. The family 41_can.md: the TXBUF write and loopback, the plain CAN reads and writes, and the registers that
read back what a write stores. -/

namespace Sys2Proof.Machine

/-! ### The TXBUF write -/

/-- R121: in loopback the write sets both flags. -/
theorem setRxReady_setTxReady (w : Word) : setRxReady (setTxReady w) = w ||| 0x00000003#32 :=
  BitVec.or_assoc ..

/-- The CAN record after a TXBUF write (R121): LOOPBACK decides on RXBUF and RX_READY alone. -/
def Can.afterTxbufWrite (c : Can) (v : Word) : Can :=
  { c with
    txBuf    := v
    rxBuf    := if loopback c.ctrl then v else c.rxBuf
    status   := if loopback c.ctrl then setRxReady (setTxReady c.status) else setTxReady c.status
    irqLevel := true }

/-- R121, R122: one equation for both cases of LOOPBACK; the assertion is the only event. -/
theorem exec_wrCanTxbuf_afterTxbufWrite (v : Word) (s : State) :
    exec (.wrCanTxbuf v) s = .next ((s.withCan (s.can.afterTxbufWrite v)).output (.irqAssert .can)) := by
  rw [exec_wrCanTxbuf, Can.afterTxbufWrite]
  split <;> rfl

/-! ### The STATUS read -/

/-- R113: either mode shows the stored RX_READY. -/
@[simp] theorem rxReady_canStatusData (m : CanStatusReadMode) (status : Word) :
    rxReady (canStatusData m status) = rxReady status := by
  cases m with
  | forceTxReady => exact rxReady_setTxReady status
  | stored => rfl

/-- R113: a stored TX_READY is shown in either mode. -/
theorem txReady_canStatusData {m : CanStatusReadMode} {status : Word} (h : txReady status = true) :
    txReady (canStatusData m status) = true := by
  cases m with
  | forceTxReady => exact txReady_set status
  | stored => exact h

/-! ### Two transactions in a row, and the read back of a write -/

theorem runInstrs_pair {i j : Instr} {s t u : State} (hi : exec i s = .next t) (hj : exec j t = .next u) :
    runInstrs [i, j] s = .next u := by
  simp only [runInstrs, hi, hj]

/-- A write that hands nothing back (R78), and a read that answers `x` on the state it leaves. -/
theorem readsBack_of_exec {w r : Instr} {x : Word} {s t : State} (hw : exec w s = .next t)
    (hr : exec r t = .next (t.answer (.data x))) (hreplies : t.replies = s.replies) : readsBack w r x s :=
  ⟨_, runInstrs_pair hw hr, by rw [State.answer_replies, hreplies]⟩

/-- R114: in both cases of LOOPBACK. -/
theorem readsBack_wrCanTxbuf (v : Word) (s : State) : readsBack (.wrCanTxbuf v) .rdCanTxbuf v s :=
  readsBack_of_exec (exec_wrCanTxbuf_afterTxbufWrite v s) rfl rfl

/-- R99, D21: whether or not the interrupt is enabled. -/
theorem readsBack_wrUartData (v : Word) (s : State) : readsBack (.wrUartData v) .rdUartData v s := by
  cases hie : s.uart.interruptEnabled
  · exact readsBack_of_exec ((exec_wrUartData v s).trans (if_neg (ne_true_of_eq_false hie))) rfl rfl
  · exact readsBack_of_exec ((exec_wrUartData v s).trans (if_pos hie)) rfl rfl

/-! ### The statements -/

/-- Settles O31: RXBUF and STATUS are read off `Can.afterTxbufWrite`; the STATUS read hides no flag. -/
theorem canLoopback : Obligations.CanLoopback := by
  intro s v
  refine ⟨_, _, _, _, _, exec_wrCanTxbuf_afterTxbufWrite v s, rfl, rfl, rfl, rfl, fun hl => ?_, fun hl => ?_⟩
  · have hstatus : (s.can.afterTxbufWrite v).status = setRxReady (setTxReady s.can.status) := if_pos hl
    have htx : txReady (s.can.afterTxbufWrite v).status = true := by simp [hstatus]
    have hrx : rxReady (s.can.afterTxbufWrite v).status = true := by simp [hstatus]
    exact ⟨if_pos hl, txReady_canStatusData htx, (rxReady_canStatusData ..).trans hrx⟩
  · exact if_neg (ne_true_of_eq_false hl)

/-- Settles O55: twelve of the writes have one case, the UART DATA and the CAN TXBUF write two. -/
theorem readBackAfterWrite : Obligations.ReadBackAfterWrite := by
  intro s v w r x hmem
  simp only [List.mem_cons, List.not_mem_nil, or_false, Prod.mk.injEq] at hmem
  rcases hmem with ⟨rfl, rfl, rfl⟩ | ⟨rfl, rfl, rfl⟩ | ⟨rfl, rfl, rfl⟩ | ⟨rfl, rfl, rfl⟩ | ⟨rfl, rfl, rfl⟩ |
    ⟨rfl, rfl, rfl⟩ | ⟨rfl, rfl, rfl⟩ | ⟨rfl, rfl, rfl⟩ | ⟨rfl, rfl, rfl⟩ | ⟨rfl, rfl, rfl⟩ | ⟨rfl, rfl, rfl⟩ |
    ⟨rfl, rfl, rfl⟩ | ⟨rfl, rfl, rfl⟩ | ⟨rfl, rfl, rfl⟩
  on_goal 6 => exact readsBack_wrCanTxbuf x s
  on_goal 3 => exact readsBack_wrUartData x s
  all_goals exact readsBack_of_exec rfl rfl rfl

/-- Settles O24, by each read's one equation. Of the three writes read back only TXBUF's has two cases. -/
theorem canPlainReads : Obligations.CanPlainReads := by
  intro s v
  refine ⟨selectedBy_of_access .can false 0x000#12 rfl (by decide) fun _ => rfl, completesAs_of_exec rfl,
    selectedBy_of_access .can false 0x004#12 rfl (by decide) fun _ => rfl, completesAs_of_exec rfl,
    selectedBy_of_access .can false 0x00C#12 rfl (by decide) fun _ => rfl, completesAs_of_exec rfl,
    selectedBy_of_access .can false 0x010#12 rfl (by decide) fun _ => rfl, completesAs_of_exec rfl,
    readsBack_of_exec rfl rfl rfl, readsBack_of_exec rfl rfl rfl, readsBack_wrCanTxbuf v s, ?_⟩
  rintro p i (rfl | rfl | rfl | rfl) <;> exact ⟨_, rfl, rfl⟩

/-- Settles O26: neither write touches another register, so that the TXBUF write after it finds the rest as in `s`. -/
theorem canCtrlAndRxbufWrites : Obligations.CanCtrlAndRxbufWrites :=
  fun _ _ w =>
    ⟨selectedBy_of_access .can true 0x004#12 rfl (by decide) fun _ => rfl, completesAs_of_exec rfl,
      selectedBy_of_access .can true 0x010#12 rfl (by decide) fun _ => rfl, completesAs_of_exec rfl,
      ⟨_, runInstrs_pair rfl (exec_wrCanTxbuf_afterTxbufWrite w _), rfl⟩,
      readsBack_of_exec rfl rfl rfl,
      ⟨_, runInstrs_pair rfl (exec_wrCanTxbuf_afterTxbufWrite w _), rfl⟩⟩

/-- Settles O28, by the two cases of `exec_wrCanTxbuf`. -/
theorem canTxbufWrite : Obligations.CanTxbufWrite := by
  intro s v
  refine ⟨selectedBy_of_access .can true 0x00C#12 rfl (by decide) fun _ => rfl,
    fun (hl : loopback s.can.ctrl = true) => ?_, fun (hl : loopback s.can.ctrl = false) => ?_⟩ <;>
    apply completesAs_of_exec
  · rw [exec_wrCanTxbuf, if_pos hl, setRxReady_setTxReady]
    rfl
  · rw [exec_wrCanTxbuf, if_neg (ne_true_of_eq_false hl)]
    rfl

/-- Settles O30: the only event of either access is a log record. -/
theorem canInvalidAccesses : Obligations.CanInvalidAccesses := by
  intro s off v
  constructor <;> exact ⟨_, rfl, ⟨rfl, rfl, rfl⟩, ⟨rfl, rfl, rfl⟩, rfl, observed_append_log ..⟩

end Sys2Proof.Machine

/-! PROOFS. The family 42_mpu.md: the region match and the permission check, the gated read and the fault record, the
configuration registers, the enable bit, and the refusals of one step. -/

namespace Sys2Proof.Machine

/-! ### The region match -/

/-- R139 with the exact end of R140. -/
theorem inRegion_exact {p : Params} (h : p.regionEndWraps = false) (a b : Word) :
    inRegion p a b = true ↔ b.toNat ≤ a.toNat ∧ a.toNat < b.toNat + 0x1000 := by
  rw [inRegion_iff, h, regionEnd_exact]

/-- The region at 0, where neither end arithmetic wraps (R155). -/
theorem inRegion_zero (p : Params) (a : Word) : inRegion p a 0#32 = true ↔ a.toNat < 0x1000 := by
  rw [inRegion_iff]
  cases p.regionEndWraps <;> simp

/-- R38: the low four bits of a masked base count nothing. -/
theorem regionLegal_base_aligned {r : Region} (h : regionLegal r) : r.base.toNat % 16 = 0 := by
  obtain ⟨hbase, -⟩ := h
  have hlow : r.base.toNat &&& 2 ^ 4 - 1 = 0 := congrArg BitVec.toNat hbase
  rwa [Nat.and_two_pow_sub_one_eq_mod] at hlow

/-- Settles O42: the interval by `inRegion_exact`, the boundary by the mask on a descriptor's base (R51). -/
theorem regionMatchesItsInterval : Obligations.RegionMatchesItsInterval := by
  refine ⟨fun p a b h => inRegion_exact h a b, fun r hr => regionLegal_base_aligned hr, fun p a h => ?_,
    { base := 0x10#32, attr := 0#32 }, by decide, rfl⟩
  rw [inRegion_exact h, show (0x10#32 : Word).toNat = 0x10 from rfl]
  omega

/-! ### The permission check -/

/-- R138, for one region. -/
theorem not_denies_iff (p : Params) (a req : Word) (r : Region) :
    denies p a req r = false ↔ (inRegion p a r.base = true → r.attr &&& req ≠ 0#32) := by
  rw [← Bool.not_eq_true, denies_iff, not_and]

/-- R138: the check grants exactly when every matching region shares a bit with the request. -/
theorem allowed_iff_every_match_grants (p : Params) (m : Mpu) (a req : Word) :
    allowed p m a req = true ↔
      ∀ r, (r = m.region0 ∨ r = m.region1) → inRegion p a r.base = true → r.attr &&& req ≠ 0#32 := by
  rw [allowed_iff, not_denies_iff, not_denies_iff]
  simp only [or_imp, forall_and, forall_eq]

/-- R138, R139: the check at an address where no region's end wraps. -/
theorem allowed_iff_of_inRegion_iff {p : Params} {a : Word}
    (hin : ∀ b, inRegion p a b = true ↔ b.toNat ≤ a.toNat ∧ a.toNat < b.toNat + 0x1000) (m : Mpu) (req : Word) :
    allowed p m a req = true ↔
      ∀ r, (r = m.region0 ∨ r = m.region1) → r.base.toNat ≤ a.toNat → a.toNat < r.base.toNat + 0x1000 →
        r.attr &&& req ≠ 0#32 := by
  simp only [allowed_iff_every_match_grants, hin, and_imp]

/-- The order of the two regions is immaterial. -/
theorem allowed_swap (p : Params) (m : Mpu) (a req : Word) :
    allowed p { m with region0 := m.region1, region1 := m.region0 } a req = allowed p m a req := by
  rw [Bool.eq_iff_iff, allowed_iff, allowed_iff, and_comm]

/-- Settles O40; with the exact end a match is an interval, by `inRegion_exact`. -/
theorem allowedIffEveryMatchGrants : Obligations.AllowedIffEveryMatchGrants :=
  fun p m a req =>
    ⟨allowed_iff_every_match_grants p m a req,
      fun h => allowed_iff_of_inRegion_iff (inRegion_exact h a) m req, allowed_swap p m a req⟩

/-- R155: two (0, 0) descriptors deny the first 0x1000 addresses and no other. -/
theorem allowed_of_default_regions (p : Params) {m : Mpu} (a req : Word)
    (h0 : m.region0 = { base := 0#32, attr := 0#32 }) (h1 : m.region1 = { base := 0#32, attr := 0#32 }) :
    allowed p m a req = decide (0x1000 ≤ a.toNat) := by
  rw [Bool.eq_iff_iff, allowed_iff, h0, h1, and_self, not_denies_iff, inRegion_zero]
  simp

/-- R138: a matching region without permissions denies every request. -/
theorem denies_of_attr_zero {p : Params} {a : Word} {r : Region} (req : Word) (hin : inRegion p a r.base = true)
    (hattr : r.attr = 0#32) : denies p a req r = true :=
  (denies_iff p a req r).mpr ⟨hin, by rw [hattr, BitVec.zero_and]⟩

/-! ### The gated read -/

/-- An offset is an address below 0x1000 (R55). -/
theorem offsetAddress_lt (off : Offset) : (offsetAddress off).toNat < 0x1000 := by
  rw [offsetAddress_toNat]
  exact off.isLt

/-- R155, for the MPU's own read path. -/
theorem not_allowed_offsetAddress_of_default_regions (p : Params) {m : Mpu} (off : Offset) (req : Word)
    (h0 : m.region0 = { base := 0#32, attr := 0#32 }) (h1 : m.region1 = { base := 0#32, attr := 0#32 }) :
    allowed p m (offsetAddress off) req = false := by
  rw [allowed_of_default_regions p _ req h0 h1]
  exact decide_eq_false (Nat.not_le.mpr (offsetAddress_lt off))

/-- R142, R139: what grants a gated read, by either end arithmetic. -/
theorem allowed_offsetAddress_iff (p : Params) (m : Mpu) (off : Offset) (req : Word) :
    allowed p m (offsetAddress off) req = true ↔
      ∀ r, (r = m.region0 ∨ r = m.region1) → r.base.toNat ≤ off.toNat → off.toNat < r.base.toNat + 0x1000 →
        r.attr &&& req ≠ 0#32 := by
  rw [allowed_iff_of_inRegion_iff fun b => inRegion_low p b (offsetAddress_lt off), offsetAddress_toNat]

/-- R144, D16. -/
theorem exec_rdMpuGated_granted {off : Offset} {s : State}
    (h : allowed s.params s.mpu (offsetAddress off) s.params.permRead = true) :
    exec (.rdMpuGated off) s = .next ((s.answer (.data 0#32)).logRecord .invalidRead off) :=
  if_pos h

/-- R143. -/
theorem exec_rdMpuGated_denied {off : Offset} {s : State}
    (h : allowed s.params s.mpu (offsetAddress off) s.params.permRead = false) :
    exec (.rdMpuGated off) s =
      .next (((s.recordViolation (offsetAddress off)).answer (.data 0#32)).logRecord .protectionViolation off) :=
  (exec_rdMpuGated off s).trans (if_neg (ne_true_of_eq_false h))

/-- Settles O37: the two cases of the check, spelled out by `allowed_offsetAddress_iff`. -/
theorem mpuGatedRead : Obligations.MpuGatedRead := by
  intro s off
  have hspelled := allowed_offsetAddress_iff s.params s.mpu off s.params.permRead
  cases hallowed : allowed s.params s.mpu (offsetAddress off) s.params.permRead with
  | true =>
    refine ⟨_, exec_rdMpuGated_granted hallowed, ⟨rfl, rfl, rfl⟩, rfl, rfl, rfl, observed_append_log .., ?_, fun _ => rfl⟩
    rintro ⟨r, hr, hbase, hend, hshare⟩
    exact absurd hshare (hspelled.mp hallowed r hr hbase hend)
  | false =>
    refine ⟨_, exec_rdMpuGated_denied hallowed, ⟨rfl, rfl, rfl⟩, rfl, rfl, rfl, observed_append_log .., fun _ => rfl, ?_⟩
    intro hgrant
    exact absurd (hspelled.mpr hgrant) (ne_true_of_eq_false hallowed)

/-- D22, R160. -/
theorem upToLogs_logRecord (s : State) (k : LogKind) (off : Offset) : upToLogs (s.logRecord k off) = upToLogs s := by
  rw [upToLogs, upToLogs, State.logRecord_out, observed_append_log]
  rfl

/-- Settles O44: an offset is below 0x1000, and a denied read leaves the descriptors as they are. -/
theorem defaultRegionDenial : Obligations.DefaultRegionDenial := by
  refine ⟨fun _ => ⟨rfl, rfl⟩, fun p m a req h0 h1 => allowed_of_default_regions p a req h0 h1, ?_⟩
  intro s off off' h0 h1
  have hfirst := exec_rdMpuGated_denied (not_allowed_offsetAddress_of_default_regions s.params off _ h0 h1)
  refine ⟨⟨_, hfirst, upToLogs_logRecord ..⟩, _, runInstrs_pair hfirst (exec_rdMpuGated_denied ?_), rfl, ?_⟩
  · exact not_allowed_offsetAddress_of_default_regions s.params off' _ h0 h1
  · exact List.append_assoc ..

/-! ### What a transaction leaves in the MPU record -/

/-- The MPU record after a transaction (R143, R145 to R151, R153): the seven configuration writes change it, and a denial that
is recorded. -/
def mpuAfter (s : State) : Instr → Mpu
  | .wrMpuCesr v     => { s.mpu with cesr := storedCesr v }
  | .wrMpuEar v      => { s.mpu with ear := v }
  | .wrMpuEdr v      => { s.mpu with edr := v }
  | .wrMpuRgn0Base v => { s.mpu with region0 := { s.mpu.region0 with base := storedBase v } }
  | .wrMpuRgn0Attr v => { s.mpu with region0 := { s.mpu.region0 with attr := storedAttr v } }
  | .wrMpuRgn1Base v => { s.mpu with region1 := { s.mpu.region1 with base := storedBase v } }
  | .wrMpuRgn1Attr v => { s.mpu with region1 := { s.mpu.region1 with attr := storedAttr v } }
  | .rdMpuGated off  =>
    if allowed s.params s.mpu (offsetAddress off) s.params.permRead then s.mpu
    else { s.mpu with ear := offsetAddress off, edr := Config.edrFaultMarker }
  | .chk a req       =>
    if !allowed s.params s.mpu a req && s.params.mpuCheckRecords then
      { s.mpu with ear := a, edr := Config.edrFaultMarker }
    else s.mpu
  | _                => s.mpu

theorem mpu_of_exec {i : Instr} {s t : State} (h : exec i s = .next t) : t.mpu = mpuAfter s i := by
  cases i with
  | rdMpuGated off =>
    rw [exec_rdMpuGated] at h
    split at h <;> rename_i hc <;> cases h
    · exact (if_pos hc).symm
    · exact (if_neg hc).symm
  | chk a req =>
    rw [exec_chk] at h
    split at h <;> rename_i hc <;> cases h
    · exact (if_pos hc).symm
    · exact (if_neg hc).symm
  | wrUartStatus _ | wrUartData _ | wrCanStatus _ | wrCanTxbuf _ | wrCanIrq _ =>
    exact (devicesAreIndependent.1 _ s t h).2.2 nofun
  | _ => cases h; rfl

/-! ### The enable bit, and the refusals of a step -/

theorem acceptRequest_of_not_wf {s : State} (h : ¬ s.params.WF) (r : Request) :
    acceptRequest s r = .error .illFormedParameters :=
  if_pos h

theorem acceptRequest_of_not_legal {s : State} (hwf : s.params.WF) (h : ¬ s.Legal) (r : Request) :
    acceptRequest s r = .error .illegalStartState :=
  (if_neg (not_not.mpr hwf)).trans (if_pos h)

/-- R57: the decoder's reason is the refusal's. -/
theorem acceptRequest_of_decode_error {s : State} {r : Request} {why : Reject} (hs : launchable s)
    (hd : decode s.params r = .error why) : acceptRequest s r = .error (.notAdmitted why) := by
  rw [acceptRequest, if_neg (not_not.mpr hs.1), if_neg (not_not.mpr hs.2)]
  simp only [hd]

/-- R179. -/
theorem acceptRequest_of_not_created {s : State} {r : Request} {i : Instr} (hs : launchable s)
    (hd : decode s.params r = .ok i) (hc : hasDevice s.created i.device = false) :
    acceptRequest s r = .error (.deviceNotCreated i.device) := by
  rw [acceptRequest, if_neg (not_not.mpr hs.1), if_neg (not_not.mpr hs.2)]
  simp only [hd, hc, Bool.false_eq_true, if_false]

/-- Settles O11: admission's four refusals, each passed on by the step. -/
theorem refusalsByName : Obligations.RefusalsByName :=
  fun _ r _ hs =>
    ⟨fun h => step_of_refused hs (acceptRequest_of_not_wf h r),
      fun hwf h => step_of_refused hs (acceptRequest_of_not_legal hwf h r),
      fun hl _ hd => step_of_refused hs (acceptRequest_of_decode_error hl hd),
      fun hl _ hd hc => step_of_refused hs (acceptRequest_of_not_created hl hd hc)⟩

/-- R154: no transaction enters DISABLED. -/
theorem enabled_stays {i : Instr} {s t : State} (h : exec i s = .next t) (hs : enabled s.mpu.cesr = true) :
    enabled t.mpu.cesr = true := by
  rw [mpu_of_exec h]
  cases i with
  | wrMpuCesr v => exact enabled_storedCesr v
  | rdMpuGated _ | chk _ _ =>
    simp only [mpuAfter]
    split <;> exact hs
  | _ => exact hs

/-- R50, R154. -/
theorem not_legal_of_disabled {s : State} (h : enabled s.mpu.cesr = false) : ¬ s.Legal := by
  rintro ⟨-, -, henabled, -⟩
  exact absurd henabled (ne_true_of_eq_false h)

/-- Settles O46: a disabled state is refused for its record, or else as no legal state. -/
theorem mpuEnableIsOneWay : Obligations.MpuEnableIsOneWay := by
  have hreset : enabled Mpu.reset.cesr = true := by decide
  refine ⟨fun _ => hreset, fun s v => ⟨_, rfl, enabled_storedCesr v⟩, fun _ _ _ h hs => enabled_stays h hs, ?_⟩
  intro s hdisabled hschedule
  obtain ⟨r, rest, hs⟩ := List.exists_cons_of_ne_nil hschedule
  by_cases hwf : s.params.WF
  · exact ⟨_, step_of_refused hs (acceptRequest_of_not_legal hwf (not_legal_of_disabled hdisabled) r)⟩
  · exact ⟨_, step_of_refused hs (acceptRequest_of_not_wf hwf r)⟩

/-! ### Reads -/

/-- Settles O47: every read but the gated one only answers and logs. A denied gated read leaves the descriptors, so that the
second is denied too and records the same. -/
theorem onlyDeniedReadChangesState : Obligations.OnlyDeniedReadChangesState := by
  intro i s t u hw hc ht hu
  cases i with
  | rdMpuGated off =>
    cases hallowed : allowed s.params s.mpu (offsetAddress off) s.params.permRead with
    | true =>
      cases ht.symm.trans (exec_rdMpuGated_granted hallowed)
      cases hu.symm.trans (exec_rdMpuGated_granted hallowed)
      exact ⟨.inl ⟨rfl, rfl, rfl⟩, ⟨rfl, rfl, rfl⟩, _, rfl, rfl⟩
    | false =>
      cases ht.symm.trans (exec_rdMpuGated_denied hallowed)
      cases hu.symm.trans (exec_rdMpuGated_denied hallowed)
      exact ⟨.inr ⟨off, rfl, hallowed⟩, ⟨rfl, rfl, rfl⟩, _, rfl, rfl⟩
  | chk a req => cases hc
  | rdUartBaud | rdUartCtrl | rdUartStatus | rdUartData | rdUartInvalid _ | rdCanMcr | rdCanCtrl | rdCanStatus
  | rdCanTxbuf | rdCanRxbuf | rdCanIrq | rdCanInvalid _ | rdMpuCesr | rdMpuEar | rdMpuEdr | rdMpuRgn0Base
  | rdMpuRgn0Attr | rdMpuRgn1Base | rdMpuRgn1Attr =>
    cases ht
    cases hu
    exact ⟨.inl ⟨rfl, rfl, rfl⟩, ⟨rfl, rfl, rfl⟩, _, rfl, rfl⟩
  | _ => cases hw

/-- Settles O34, by each read's one equation; the fixed bits are those of a legal state (R50, R51). -/
theorem mpuConfigurationReads : Obligations.MpuConfigurationReads := by
  intro s v
  refine ⟨selectedBy_of_access .mpu false 0x000#12 rfl (by decide) fun _ => rfl, completesAs_of_exec rfl,
    selectedBy_of_access .mpu false 0x004#12 rfl (by decide) fun _ => rfl, completesAs_of_exec rfl,
    selectedBy_of_access .mpu false 0x008#12 rfl (by decide) fun _ => rfl, completesAs_of_exec rfl,
    selectedBy_of_access .mpu false 0x00C#12 rfl (by decide) fun _ => rfl, completesAs_of_exec rfl,
    selectedBy_of_access .mpu false 0x010#12 rfl (by decide) fun _ => rfl, completesAs_of_exec rfl,
    selectedBy_of_access .mpu false 0x014#12 rfl (by decide) fun _ => rfl, completesAs_of_exec rfl,
    selectedBy_of_access .mpu false 0x018#12 rfl (by decide) fun _ => rfl, completesAs_of_exec rfl,
    fun _ => ⟨_, rfl, rfl⟩, ?_⟩
  rintro ⟨-, -, henabled, ⟨hbase0, hattr0⟩, ⟨hbase1, hattr1⟩, -⟩
  refine ⟨⟨_, _, rfl, rfl, henabled⟩, ?_, ?_⟩
  · rintro i (rfl | rfl)
    · exact ⟨_, _, rfl, rfl, hbase0⟩
    · exact ⟨_, _, rfl, rfl, hbase1⟩
  · rintro i (rfl | rfl)
    · exact ⟨_, _, rfl, rfl, hattr0⟩
    · exact ⟨_, _, rfl, rfl, hattr1⟩

/-! ### Writes -/

/-- R153: whether or not a denial is recorded, the check answers `Allowed(a, req)`. -/
theorem exec_chk_answers (a req : Word) (s : State) :
    ∃ t, exec (.chk a req) s = .next t ∧ t.replies = s.replies ++ [.verdict (allowed s.params s.mpu a req)] := by
  rw [exec_chk]
  split <;> exact ⟨_, rfl, rfl⟩

/-- The check right after a write that hands nothing back answers on the state the write left (R66). -/
theorem runInstrs_write_chk {w : Instr} {s t : State} {a req : Word} {verdict : Bool} (hw : exec w s = .next t)
    (hreplies : t.replies = s.replies) (hv : allowed t.params t.mpu a req = verdict) :
    ∃ u, runInstrs [w, .chk a req] s = .next u ∧ u.replies = s.replies ++ [.verdict verdict] := by
  obtain ⟨u, hu, hanswer⟩ := exec_chk_answers a req t
  exact ⟨u, runInstrs_pair hw hu, by rw [hanswer, hreplies, hv]⟩

/-- Settles O35, by each write's one equation and the check after it. -/
theorem mpuConfigurationWrites : Obligations.MpuConfigurationWrites := by
  intro s v a req
  refine ⟨selectedBy_of_access .mpu true 0x000#12 rfl (by decide) fun _ => rfl, completesAs_of_exec rfl,
    selectedBy_of_access .mpu true 0x00C#12 rfl (by decide) fun _ => rfl, completesAs_of_exec rfl,
    selectedBy_of_access .mpu true 0x010#12 rfl (by decide) fun _ => rfl, completesAs_of_exec rfl,
    selectedBy_of_access .mpu true 0x014#12 rfl (by decide) fun _ => rfl, completesAs_of_exec rfl,
    selectedBy_of_access .mpu true 0x018#12 rfl (by decide) fun _ => rfl, completesAs_of_exec rfl,
    runInstrs_write_chk rfl rfl rfl, runInstrs_write_chk rfl rfl rfl, fun hin => ?_, fun hin => ?_⟩
  · exact runInstrs_write_chk rfl rfl ((not_allowed_iff ..).mpr (.inl (denies_of_attr_zero req hin rfl)))
  · exact runInstrs_write_chk rfl rfl ((not_allowed_iff ..).mpr (.inr (denies_of_attr_zero req hin rfl)))

/-- Settles O38: the only event is a log record. -/
theorem mpuUnauthorizedWrite : Obligations.MpuUnauthorizedWrite :=
  fun _ _ _ => ⟨_, rfl, ⟨rfl, rfl, rfl⟩, ⟨rfl, rfl, rfl⟩, rfl, observed_append_log ..⟩

end Sys2Proof.Machine

/-! PROOFS. The family 60_exceptions.md: when a step answers and when it stops, what a transaction hands back, and the lines
that no transaction lowers (CAN) or drives (MPU). -/

namespace Sys2Proof.Machine

/-! ### When a step answers a next state, and when it faults -/

/-- Settles O9: what admission has met is what it asks for, and the admitted transaction completes. -/
theorem stepAnswersNextExactlyWhenAdmitted : Obligations.StepAnswersNextExactlyWhenAdmitted := by
  intro s
  constructor
  · rintro ⟨t, h⟩
    obtain ⟨r, rest, i, hs, ha, -⟩ := step_next h
    obtain ⟨hwf, hl, hd, hc⟩ := acceptRequest_ok ha
    exact ⟨r, rest, i, hs, ⟨hwf, hl⟩, hd, hc⟩
  · rintro ⟨r, rest, i, hs, hl, hd, hc⟩
    rw [stepRunsDecodedTransaction s r rest i hs hl hd hc]
    exact exec_completes i _

/-- R157, R158: with a transaction scheduled, a step is refused or answers a next state; the block has no fault. -/
theorem step_ne_fault_of_cons {s : State} {r : Request} {rest : List Request} (hs : s.schedule = r :: rest) (f : Fault) :
    step s ≠ .fault f := by
  cases ha : acceptRequest s r with
  | error why =>
    rw [step_of_refused hs ha]
    nofun
  | ok i =>
    obtain ⟨t, ht⟩ := exec_completes i { s with schedule := rest }
    rw [step_of_admitted hs ha, ht]
    nofun

/-- Settles O10: an empty schedule faults, and a step over a scheduled transaction does not. -/
theorem stepFaultsExactlyAtEndOfRun : Obligations.StepFaultsExactlyAtEndOfRun := by
  refine fun s => ⟨fun ⟨f, h⟩ => ?_, fun hs => ⟨_, step_of_nil hs⟩⟩
  cases hs : s.schedule with
  | nil => rfl
  | cons r rest => exact absurd h (step_ne_fault_of_cons hs f)

/-! ### What a transaction hands back -/

/-- R78: a bus write hands nothing back. -/
theorem replies_of_write {i : Instr} {s t : State} (hw : i.isWrite = true) (h : exec i s = .next t) :
    t.replies = s.replies := by
  cases i with
  | wrUartStatus _ | wrUartData _ | wrCanStatus _ | wrCanTxbuf _ | wrCanIrq _ =>
    simp only [exec_wrUartStatus, exec_wrUartData, exec_wrCanStatus, exec_wrCanTxbuf, exec_wrCanIrq] at h
    split at h <;> cases h <;> rfl
  | wrUartBaud _ | wrUartCtrl _ | wrUartInvalid _ _ | wrCanMcr _ | wrCanCtrl _ | wrCanRxbuf _ | wrCanInvalid _ _
  | wrMpuCesr _ | wrMpuEar _ | wrMpuEdr _ | wrMpuRgn0Base _ | wrMpuRgn0Attr _ | wrMpuRgn1Base _ | wrMpuRgn1Attr _
  | wrMpuUnauthorized _ _ =>
    cases h
    rfl
  | _ => cases hw

/-- R153: a check hands back its verdict. -/
theorem replies_of_check {i : Instr} {s t : State} (hc : i.isCheck = true) (h : exec i s = .next t) :
    ∃ b, t.replies = s.replies ++ [.verdict b] := by
  cases i with
  | chk a req =>
    obtain ⟨u, hu, hanswer⟩ := exec_chk_answers a req s
    cases h.symm.trans hu
    exact ⟨_, hanswer⟩
  | _ => cases hc

/-- R158: a read returns data. -/
theorem replies_of_read {i : Instr} {s t : State} (hw : i.isWrite = false) (hc : i.isCheck = false)
    (h : exec i s = .next t) : ∃ v, t.replies = s.replies ++ [.data v] := by
  obtain ⟨u, hu⟩ := exec_completes i t
  obtain ⟨-, -, v, hv, -⟩ := onlyDeniedReadChangesState i s t u hw hc h hu
  exact ⟨v, hv⟩

/-- Settles O12: every transaction completes, and what it hands back follows its direction. -/
theorem everyTransactionCompletes : Obligations.EveryTransactionCompletes := by
  refine ⟨fun i s => ?_, fun _ _ _ _ => step_of_refused⟩
  obtain ⟨t, h⟩ := exec_completes i s
  exact ⟨t, h, sameSetup_of_exec h, fun hw => replies_of_write hw h, fun hc => replies_of_check hc h,
    fun hw hc => replies_of_read hw hc h⟩

/-! ### The CAN line -/

/-- The CAN record after a transaction (R118 to R121, R123, R124): only the controller's six writes change it. -/
def canAfter (s : State) : Instr → Can
  | .wrCanMcr v    => { s.can with mcr := v }
  | .wrCanCtrl v   => { s.can with ctrl := v }
  | .wrCanStatus v =>
    { s.can with
      status   := v
      irqLevel := !s.params.canStatusWriteLowersIrq && s.can.irqLevel }
  | .wrCanTxbuf v  => s.can.afterTxbufWrite v
  | .wrCanRxbuf v  => { s.can with rxBuf := v }
  | .wrCanIrq v    => if s.params.canIrqWrite = .store then { s.can with irqReg := v } else s.can
  | _              => s.can

theorem can_of_exec {i : Instr} {s t : State} (h : exec i s = .next t) : t.can = canAfter s i := by
  cases i with
  | wrCanStatus v =>
    rw [exec_wrCanStatus] at h
    split at h <;> rename_i hc <;> cases h <;> simp [canAfter, hc]
  | wrCanTxbuf v =>
    rw [exec_wrCanTxbuf_afterTxbufWrite] at h
    cases h
    rfl
  | wrCanIrq v =>
    rw [exec_wrCanIrq] at h
    split at h <;> rename_i hc <;> cases h
    · exact (if_pos hc).symm
    · exact (if_neg hc).symm
  | wrUartStatus _ | wrUartData _ | rdMpuGated _ | chk _ _ => exact (devicesAreIndependent.1 _ s t h).2.1 nofun
  | _ => cases h; rfl

/-- The CAN line is up, and a STATUS write does not lower it (D14): what R163 keeps. -/
def CanLineHeld (s : State) : Prop :=
  s.params.canStatusWriteLowersIrq = false ∧ s.can.irqLevel = true

/-- R121: a TXBUF write drives the line to 1. -/
theorem canLineHeld_of_wrCanTxbuf {v : Word} {s t : State} (hl : s.params.canStatusWriteLowersIrq = false)
    (h : exec (.wrCanTxbuf v) s = .next t) : CanLineHeld t := by
  rw [CanLineHeld, (sameSetup_of_exec h).1, can_of_exec h]
  exact ⟨hl, rfl⟩

/-- R163: of all transactions a STATUS write alone could lower the line. -/
theorem canLineHeld_stays {i : Instr} {s t : State} (hs : CanLineHeld s) (h : exec i s = .next t) : CanLineHeld t := by
  obtain ⟨hl, hline⟩ := hs
  rw [CanLineHeld, (sameSetup_of_exec h).1, can_of_exec h]
  refine ⟨hl, ?_⟩
  cases i with
  | wrCanStatus v => simp [canAfter, hl, hline]
  | wrCanTxbuf v => rfl
  | wrCanIrq v =>
    simp only [canAfter]
    split <;> exact hline
  | _ => exact hline

/-- Settles O33: the write raises the line, and every transaction after it keeps it up. -/
theorem canLineStaysAsserted : Obligations.CanLineStaysAsserted := by
  intro s v after hl
  obtain ⟨r, hr⟩ := exec_completes (.wrCanTxbuf v) s
  obtain ⟨t, ht, -, hline⟩ := runInstrs_keeps (is := after) (fun _ _ _ _ => canLineHeld_stays)
    (canLineHeld_of_wrCanTxbuf hl hr)
  refine ⟨t, ?_, hline⟩
  simpa only [runInstrs, hr] using ht

/-! ### The MPU line -/

/-- R164: a recorded violation leaves the line's level alone, and so does every other transaction. -/
theorem mpu_line_stays {i : Instr} {s t : State} (h : exec i s = .next t) : t.mpu.irqLevel = s.mpu.irqLevel := by
  rw [mpu_of_exec h]
  cases i with
  | rdMpuGated _ | chk _ _ =>
    simp only [mpuAfter]
    split <;> rfl
  | _ => rfl

/-- R164: the only lines a transaction drives are the UART's and the CAN controller's. -/
theorem mpu_interrupts_not_mem_eventsOf (s : State) (i : Instr) :
    Event.irqAssert .mpu ∉ eventsOf s i ∧ Event.irqDeassert .mpu ∉ eventsOf s i := by
  cases i with
  | wrUartStatus _ | wrUartData _ | wrCanStatus _ | wrCanIrq _ | rdMpuGated _ =>
    simp only [eventsOf]
    split <;> simp
  | _ => simp [eventsOf]

/-- Settles O51: the appended events are `eventsOf`. -/
theorem mpuLineNeverAsserted : Obligations.MpuLineNeverAsserted :=
  ⟨fun _ => rfl, fun i s _ h => ⟨mpu_line_stays h, eventsOf s i, out_of_exec h, mpu_interrupts_not_mem_eventsOf s i⟩⟩

end Sys2Proof.Machine

/-! PROOFS. The family of the remaining statements: the spec's invariants, the decoder's refusals, the two state machines, the
check port, and the transactions whose rules have variants. -/

namespace Sys2Proof.Machine

/-! ### The invariants of R48 to R52 -/

/-- R104: of the two values R49 admits, either becomes 1. -/
theorem setTxComplete_of_uartStatus_legal {w : Word} (h : w = 0x00000000#32 ∨ w = 0x00000001#32) :
    setTxComplete w = 0x00000001#32 := by
  rcases h with rfl | rfl <;> rfl

/-- R103: of the two values R49 admits, either becomes 0. -/
theorem clearTxComplete_of_uartStatus_legal {w : Word} (h : w = 0x00000000#32 ∨ w = 0x00000001#32) :
    clearTxComplete w = 0x00000000#32 := by
  rcases h with rfl | rfl <;> rfl

/-- R48, R49: a CTRL write stores IE with its mirror; in CLEAR mode no write brings a value of its own into STATUS. -/
theorem uartLegal_uartAfter {s : State} (i : Instr) (h : uartLegal s.params s.uart) :
    uartLegal s.params (uartAfter s i) := by
  obtain ⟨hmirror, hstatus⟩ := h
  cases i with
  | wrUartCtrl v => exact ⟨rfl, hstatus⟩
  | wrUartStatus v =>
    refine ⟨hmirror, fun hm => .inl ?_⟩
    simp only [uartAfter, storedUartStatus, hm]
    exact clearTxComplete_of_uartStatus_legal (hstatus hm)
  | wrUartData v => exact ⟨hmirror, fun hm => .inr (setTxComplete_of_uartStatus_legal (hstatus hm))⟩
  | _ => exact ⟨hmirror, hstatus⟩

/-- R52: in IGNORE mode the IRQ write stores nothing, and no other transaction writes that register. -/
theorem canLegal_canAfter {s : State} (i : Instr) (h : canLegal s.params s.can) : canLegal s.params (canAfter s i) := by
  cases i with
  | wrCanIrq v =>
    intro hm
    rw [canAfter, if_neg (by simp [hm])]
    exact h hm
  | _ => exact h

/-- R50 to R52: what a descriptor write stores is masked, a CESR write stores the enable bit set, a fault record touches neither. -/
theorem mpuLegal_mpuAfter {s : State} (i : Instr) (h : mpuLegal s.mpu) : mpuLegal (mpuAfter s i) := by
  have hkeep := h
  obtain ⟨henabled, ⟨hbase0, hattr0⟩, ⟨hbase1, hattr1⟩, hline⟩ := h
  cases i with
  | wrMpuCesr v => exact ⟨enabled_storedCesr v, ⟨hbase0, hattr0⟩, ⟨hbase1, hattr1⟩, hline⟩
  | wrMpuRgn0Base v => exact ⟨henabled, ⟨storedBase_aligned v, hattr0⟩, ⟨hbase1, hattr1⟩, hline⟩
  | wrMpuRgn0Attr v => exact ⟨henabled, ⟨hbase0, storedAttr_masked v⟩, ⟨hbase1, hattr1⟩, hline⟩
  | wrMpuRgn1Base v => exact ⟨henabled, ⟨hbase0, hattr0⟩, ⟨storedBase_aligned v, hattr1⟩, hline⟩
  | wrMpuRgn1Attr v => exact ⟨henabled, ⟨hbase0, hattr0⟩, ⟨hbase1, storedAttr_masked v⟩, hline⟩
  | rdMpuGated _ | chk _ _ =>
    simp only [mpuAfter]
    split <;> exact hkeep
  | _ => exact hkeep

/-- R48 to R52 are kept by every transaction, each device's part by what the transaction leaves in its record. -/
theorem legal_of_exec {i : Instr} {s t : State} (hs : s.Legal) (h : exec i s = .next t) : t.Legal := by
  obtain ⟨huart, hcan, hmpu⟩ := hs
  rw [State.Legal, (sameSetup_of_exec h).1, uart_of_exec h, can_of_exec h, mpu_of_exec h]
  exact ⟨uartLegal_uartAfter i huart, canLegal_canAfter i hcan, mpuLegal_mpuAfter i hmpu⟩

/-- Settles O3: a step is one transaction, on a state that differs from `s` in its schedule alone. -/
theorem stepKeepsLegalState : Obligations.StepKeepsLegalState := by
  intro s t hs h
  obtain ⟨r, rest, i, -, -, hexec⟩ := step_next h
  exact legal_of_exec (s := { s with schedule := rest }) hs hexec

/-! ### Creation -/

/-- R9, R59: what a well-formed record asks for but the placement of the windows does not look at the OPEN parameters, and
`Params.atReset` has the decided defaults. -/
theorem wf_defaults {o : PlatformParams} (h : (Params.defaults o).WindowsApart) : (Params.defaults o).WF := by
  obtain ⟨hdistinct, hwindow, hperms, -, hsizes⟩ : Params.atReset.WF := by decide
  exact ⟨hdistinct, hwindow, hperms, h, hsizes⟩

/-- R48 to R52 at creation: STATUS is 1, every other register of theirs is 0 or has its bit fixed. -/
theorem legal_resetWith (p : Params) : (State.resetWith p).Legal := by
  have hmirror : Uart.reset.interruptEnabled = Uart.reset.control.getLsbD 1 := by decide
  have hmpu : mpuLegal Mpu.reset := by decide
  exact ⟨⟨hmirror, fun _ => .inr rfl⟩, fun _ => rfl, hmpu⟩

/-- Settles O2, by `legal_resetWith` and `wf_defaults`. -/
theorem creationIsLaunchable : Obligations.CreationIsLaunchable :=
  ⟨legal_resetWith, fun _ huc hum hcm => ⟨wf_defaults ⟨huc, hum, hcm⟩, legal_resetWith _⟩⟩

/-! ### The decoder -/

/-- R57: `decode` refuses exactly what it does not accept. -/
theorem decode_error_iff_not_ok {p : Params} {r : Request} :
    (∃ why, decode p r = .error why) ↔ ¬ ∃ i, decode p r = .ok i := by
  cases decode p r <;> simp

/-- R89: the check port admits its one key. -/
theorem decode_checkPort_ok_iff {p : Params} {r : Request} (hres : keyReserved r.key = false)
    (hunit : windowOf (keyUnit r.key) = none) :
    (∃ i, decode p r = .ok i) ↔ keyWrites r.key = false ∧ keyOffset r.key = 0#12 := by
  constructor
  · rintro ⟨i, h⟩
    obtain ⟨-, ⟨-, hw, hoff, -⟩ | ⟨d, hwindow, -⟩⟩ := decode_ok h
    · exact ⟨hw, hoff⟩
    · rw [hunit] at hwindow
      cases hwindow
  · rintro ⟨hw, hoff⟩
    simp [decode, hres, hunit, hw, hoff]

/-- R57, R79: a window admits an access of an admitted size that it holds. -/
theorem decode_window_ok_iff {p : Params} {r : Request} {d : Device} (hres : keyReserved r.key = false)
    (hunit : windowOf (keyUnit r.key) = some d) :
    (∃ i, decode p r = .ok i) ↔ r.size ∈ p.admittedSizes ∧ (keyOffset r.key).toNat + r.size ≤ Config.windowSize := by
  constructor
  · rintro ⟨i, h⟩
    obtain ⟨-, ⟨hport, -⟩ | ⟨_, -, hsize, hoff, -⟩⟩ := decode_ok h
    · rw [hunit] at hport
      cases hport
    · exact ⟨hsize, hoff⟩
  · rintro ⟨hsize, hoff⟩
    simp [decode, hres, hunit, hsize, Nat.not_lt.mpr hoff]

/-- Settles O6: a reserved bit refuses every request; without one, the check port and the windows each refuse what they do not
accept. -/
theorem decoderRefusesExactly : Obligations.DecoderRefusesExactly := by
  intro p r
  change _ ↔ keyReserved r.key = true ∨
    (keyUnit r.key = 3#2 ∧ (keyWrites r.key = true ∨ keyOffset r.key ≠ 0#12)) ∨
    (¬ keyUnit r.key = 3#2 ∧ (r.size ∉ p.admittedSizes ∨ (keyOffset r.key).toNat + r.size > Config.windowSize))
  rw [← windowOf_eq_none]
  cases hres : keyReserved r.key with
  | true => simp [decode, hres]
  | false =>
    rw [decode_error_iff_not_ok]
    cases hunit : windowOf (keyUnit r.key) with
    | none =>
      rw [decode_checkPort_ok_iff hres hunit]
      simp [imp_iff_not_or]
    | some d =>
      rw [decode_window_ok_iff hres hunit]
      simp [imp_iff_not_or]

/-- Settles O7, key by key. -/
theorem writtenKeysDecode : Obligations.WrittenKeysDecode :=
  fun v =>
    ⟨selectedBy_of_access .uart false 0x008#12 rfl (by decide) fun _ => rfl,
      selectedBy_of_access .uart true 0x00C#12 rfl (by decide) fun _ => rfl,
      selectedBy_of_access .uart false 0x001#12 rfl (by decide) fun _ => rfl,
      selectedBy_of_access .can true 0x00C#12 rfl (by decide) fun _ => rfl,
      selectedBy_of_access .can false 0x014#12 rfl (by decide) fun _ => rfl,
      selectedBy_of_access .can true 0x00E#12 rfl (by decide) fun _ => rfl,
      selectedBy_of_access .mpu false 0x018#12 rfl (by decide) fun _ => rfl,
      selectedBy_of_access .mpu true 0x00C#12 rfl (by decide) fun _ => rfl,
      selectedBy_of_access .mpu false 0x01C#12 rfl (by decide) fun _ => rfl,
      fun b => decode_checkCall _ v b⟩

/-! ### The two state machines -/

/-- R63: what of one kind a transaction adds to the output list. -/
theorem filter_out_of_exec {i : Instr} {s t : State} (kind : Event → Bool) (h : exec i s = .next t) :
    t.out.filter kind = s.out.filter kind ++ (eventsOf s i).filter kind := by
  rw [out_of_exec h, List.filter_append]

/-- R107: where the machine goes. With lowering and in CLEAR mode a STATUS write takes both TX_COMPLETE and the line to 0. -/
theorem uartMachine_of_exec {i : Instr} {s t : State} (hm : s.params.uartStatusWriteMode = .clear)
    (hl : s.params.uartStatusWriteLowersIrq = true) (h : exec i s = .next t) :
    uartMachine t = (uartMachineNext (uartMachine s) i).1 := by
  rw [uartMachine, uart_of_exec h]
  cases i with
  | wrUartStatus v => simp [uartAfter, uartMachineNext, uartMachine, storedUartStatus, hm, hl]
  | wrUartData v => cases hie : s.uart.interruptEnabled <;> simp [uartAfter, uartMachineNext, uartMachine, hie]
  | _ => rfl

/-- R107: what the machine puts out. -/
theorem filter_ofUart_eventsOf {s : State} (hl : s.params.uartStatusWriteLowersIrq = true) (i : Instr) :
    (eventsOf s i).filter Event.ofUart = (uartMachineNext (uartMachine s) i).2 := by
  cases i with
  | wrUartStatus v => simp [eventsOf, uartMachineNext, Event.ofUart, hl]
  | wrUartData v =>
    cases hie : s.uart.interruptEnabled <;>
      simp [eventsOf, uartMachineNext, uartMachine, Event.ofUart, txByte, hie]
  | wrCanStatus _ | wrCanIrq _ | rdMpuGated _ =>
    simp only [eventsOf]
    split <;> rfl
  | _ => rfl

/-- R44, R107: the machine starts in (1, 0, 0). -/
theorem uartMachine_resetWith (p : Params) :
    uartMachine (State.resetWith p) = { txComplete := true, ie := false, irq := false } := by
  simp [uartMachine, State.resetWith, Uart.reset, txComplete]

/-- Settles O23: the record after a transaction gives the machine's move, `eventsOf` its outputs. -/
theorem uartFollowsStateMachine : Obligations.UartFollowsStateMachine :=
  ⟨uartMachine_resetWith, fun i _ _ hm hl h =>
    ⟨uartMachine_of_exec hm hl h, filter_ofUart_eventsOf hl i ▸ filter_out_of_exec Event.ofUart h⟩⟩

/-- R126: where the machine goes. -/
theorem canMachine_of_exec {i : Instr} {s t : State} (hl : s.params.canStatusWriteLowersIrq = false)
    (h : exec i s = .next t) : canMachine t = (canMachineNext (canMachine s) i).1 := by
  rw [canMachine, can_of_exec h]
  cases i with
  | wrCanStatus v => simp [canAfter, canMachineNext, canMachine, txReady, rxReady, hl]
  | wrCanTxbuf v =>
    cases hloop : loopback s.can.ctrl <;>
      simp [canAfter, Can.afterTxbufWrite, canMachineNext, canMachine, hloop]
  | wrCanIrq v =>
    simp only [canAfter]
    split <;> rfl
  | _ => rfl

/-- R126: what the machine puts out. -/
theorem filter_ofCan_eventsOf {s : State} (hl : s.params.canStatusWriteLowersIrq = false) (i : Instr) :
    (eventsOf s i).filter Event.ofCan = (canMachineNext (canMachine s) i).2 := by
  cases i with
  | wrCanStatus v => simp [eventsOf, canMachineNext, hl]
  | wrCanTxbuf v =>
    simp only [eventsOf, canMachineNext]
    split <;> rfl
  | wrUartStatus _ | wrUartData _ | wrCanIrq _ | rdMpuGated _ =>
    simp only [eventsOf]
    split <;> rfl
  | _ => rfl

/-- R45, R126: the machine starts in (1, 0, 0, 0). -/
theorem canMachine_resetWith (p : Params) :
    canMachine (State.resetWith p) = { txReady := true, rxReady := false, loopback := false, irq := false } := by
  simp [canMachine, State.resetWith, Can.reset, txReady, rxReady, loopback]

/-- Settles O32, as O23 is settled. -/
theorem canFollowsStateMachine : Obligations.CanFollowsStateMachine :=
  ⟨canMachine_resetWith, fun i _ _ hl h =>
    ⟨canMachine_of_exec hl h, filter_ofCan_eventsOf hl i ▸ filter_out_of_exec Event.ofCan h⟩⟩

/-! ### The bits of a request, and the region end at the top of the address space -/

/-- R51: a masked word has its low four bits only. -/
theorem and_low_of_masked {w : Word} (h : w &&& 0xFFFFFFF0#32 = 0#32) : w &&& 0x0000000F#32 = w := by
  have hall : (0x0000000F#32 ||| 0xFFFFFFF0#32 : Word) = BitVec.allOnes 32 := by decide
  calc
    w &&& 0x0000000F#32 = w &&& 0x0000000F#32 ||| w &&& 0xFFFFFFF0#32 := by rw [h, BitVec.or_zero]
    _ = w &&& BitVec.allOnes 32 := by rw [← BitVec.and_or_distrib_left, hall]
    _ = w := BitVec.and_allOnes

/-- D29: one masked region does not look at the bits of a request above the low four. -/
theorem denies_low_bits {r : Region} (hr : regionLegal r) (p : Params) (a req : Word) :
    denies p a (req &&& 0x0000000F#32) r = denies p a req r := by
  have hshare : r.attr &&& (req &&& 0x0000000F#32) = r.attr &&& req := by
    rw [BitVec.and_comm req, ← BitVec.and_assoc, and_low_of_masked hr.2]
  rw [denies, denies, hshare]

/-- D29, for the check. -/
theorem allowed_low_bits {m : Mpu} (h0 : regionLegal m.region0) (h1 : regionLegal m.region1) (p : Params) (a req : Word) :
    allowed p m a (req &&& 0x0000000F#32) = allowed p m a req := by
  rw [Bool.eq_iff_iff, allowed_iff, allowed_iff, denies_low_bits h0, denies_low_bits h1]

/-- R138: a request without a bit is denied by every region that matches. -/
theorem denies_zero {p : Params} {a : Word} {r : Region} (hin : inRegion p a r.base = true) : denies p a 0#32 r = true :=
  (denies_iff p a 0#32 r).mpr ⟨hin, BitVec.and_zero⟩

/-- Settles O41: over masked descriptors a request without low bits is the request 0. -/
theorem onlyLowRequestBitsCount : Obligations.OnlyLowRequestBitsCount := by
  intro p m a req ⟨_, h0, h1, _⟩
  have hlow := allowed_low_bits h0 h1 p a req
  refine ⟨hlow.symm, fun hzero hin => ?_⟩
  rw [← hlow, hzero, not_allowed_iff]
  exact hin.imp denies_zero denies_zero

/-- R139 with the wrapping end of R140. -/
theorem inRegion_wrapping {p : Params} (h : p.regionEndWraps = true) (a b : Word) :
    inRegion p a b = true ↔ b.toNat ≤ a.toNat ∧ a.toNat < (b.toNat + 0x1000) % 2 ^ 32 := by
  rw [inRegion_iff, h, regionEnd_wrapped]

/-- Settles O43: the end wraps exactly from the base 0xFFFFF000 on, and a wrapped end lies below its base. -/
theorem regionEndAtTheTop : Obligations.RegionEndAtTheTop := by
  intro p a b
  refine ⟨fun hw hb => ?_, fun hw hb => ?_, fun hw hb => ?_⟩
  · rw [← Bool.not_eq_true, inRegion_wrapping hw]
    omega
  · rw [inRegion_wrapping hw]
    omega
  · rw [inRegion_exact hw]
    omega

/-! ### The check port -/

/-- Settles O39, by the two cases of `exec_chk`. -/
theorem checkPortAnswers : Obligations.CheckPortAnswers := by
  intro s a req
  refine ⟨fun hv => ?_, fun hv hrec => ?_, fun hv hrec => ?_⟩ <;> apply completesAs_of_exec <;> rw [exec_chk, hv]
  · rfl
  · rw [hrec]
    rfl
  · rw [hrec]
    rfl

/-- R9 (c): a READ asks for at least one bit. -/
theorem permRead_ne_zero {p : Params} (h : p.PermsValid) : p.permRead ≠ 0#32 := by
  simp only [Params.PermsValid, List.all_cons, Bool.and_eq_true, bne_iff_ne] at h
  obtain ⟨⟨hread, -⟩, -⟩ := h
  exact hread

/-- Settles O45: at its base `g` shares PERM_READ with a READ and nothing with a WRITE. -/
theorem regionGating : Obligations.RegionGating := by
  intro s g o hgo hperms hdisjoint hattr hend hother
  have hbase : inRegion s.params g.base g.base = true := inRegion_base s.params hend
  have hread : allowed s.params s.mpu g.base s.params.permRead = true := by
    have hg : denies s.params g.base s.params.permRead g = false := by
      rw [not_denies_iff, hattr, BitVec.and_self]
      exact fun _ => permRead_ne_zero hperms
    have ho : denies s.params g.base s.params.permRead o = false := (not_denies_iff ..).mpr hother
    rw [allowed_iff]
    obtain ⟨rfl, rfl⟩ | ⟨rfl, rfl⟩ := hgo
    · exact ⟨hg, ho⟩
    · exact ⟨ho, hg⟩
  have hwrite : allowed s.params s.mpu g.base s.params.permWrite = false := by
    have hg : denies s.params g.base s.params.permWrite g = true :=
      (denies_iff ..).mpr ⟨hbase, by rw [hattr, hdisjoint]⟩
    rw [not_allowed_iff]
    obtain ⟨rfl, -⟩ | ⟨rfl, -⟩ := hgo
    · exact .inl hg
    · exact .inr hg
  obtain ⟨hgranted, -, -⟩ := checkPortAnswers s g.base s.params.permRead
  obtain ⟨-, hdenied, hrecorded⟩ := checkPortAnswers s g.base s.params.permWrite
  exact ⟨hgranted hread, hdenied hwrite, hrecorded hwrite⟩

/-! ### A repeated write -/

@[simp] theorem setTxComplete_setTxComplete (w : Word) : setTxComplete (setTxComplete w) = setTxComplete w := by
  simp [setTxComplete, BitVec.or_assoc]

/-- R103: in either mode the second write of a value leaves what the first left. -/
@[simp] theorem storedUartStatus_storedUartStatus (m : UartStatusWriteMode) (status v : Word) :
    storedUartStatus m (storedUartStatus m status v) v = storedUartStatus m status v := by
  cases m with
  | clear => simp [storedUartStatus, clearTxComplete, BitVec.and_assoc]
  | verbatim => rfl

/-- R121: TXBUF, RXBUF and the flags are as the first write left them. -/
theorem Can.afterTxbufWrite_afterTxbufWrite (c : Can) (v : Word) :
    (c.afterTxbufWrite v).afterTxbufWrite v = c.afterTxbufWrite v := by
  cases hl : loopback c.ctrl <;>
    simp [Can.afterTxbufWrite, hl, setRxReady, setTxReady, BitVec.or_assoc]

/-- R74, for the UART record. -/
theorem uartAfter_again {i : Instr} {s t : State} (hp : t.params = s.params) (hu : t.uart = uartAfter s i) :
    uartAfter t i = t.uart := by
  cases i with
  | wrUartStatus v | wrUartData v => simp [uartAfter, hp, hu]
  | wrUartBaud v | wrUartCtrl v => simp only [uartAfter, hu]
  | _ => rfl

/-- R74, for the CAN record. -/
theorem canAfter_again {i : Instr} {s t : State} (hp : t.params = s.params) (hc : t.can = canAfter s i) :
    canAfter t i = t.can := by
  cases i with
  | wrCanStatus v => simp [canAfter, hp, hc]
  | wrCanTxbuf v => simp only [canAfter, hc, Can.afterTxbufWrite_afterTxbufWrite]
  | wrCanIrq v =>
    simp only [canAfter, hp, hc]
    split <;> rfl
  | wrCanMcr v | wrCanCtrl v | wrCanRxbuf v => simp only [canAfter, hc]
  | _ => rfl

/-- R74, for the MPU record. -/
theorem mpuAfter_again {i : Instr} {s t : State} (hw : i.isWrite = true) (hm : t.mpu = mpuAfter s i) :
    mpuAfter t i = t.mpu := by
  cases i with
  | rdMpuGated _ | chk _ _ => cases hw
  | wrMpuCesr _ | wrMpuEar _ | wrMpuEdr _ | wrMpuRgn0Base _ | wrMpuRgn0Attr _ | wrMpuRgn1Base _ | wrMpuRgn1Attr _ =>
    simp only [mpuAfter, hm]
  | _ => rfl

/-- Settles O48: device by device. -/
theorem repeatedWriteKeepsState : Obligations.RepeatedWriteKeepsState := by
  intro i s t u hw ht hu
  have hp : t.params = s.params := (sameSetup_of_exec ht).1
  refine ⟨?_, ?_, ?_⟩
  · rw [uart_of_exec hu, uartAfter_again hp (uart_of_exec ht)]
  · rw [can_of_exec hu, canAfter_again hp (can_of_exec ht)]
  · rw [mpu_of_exec hu, mpuAfter_again hw (mpu_of_exec ht)]

/-! ### The OPEN parameters -/

/-- The state with the OPEN parameters replaced (R54, R72). -/
def State.withPlatform (o : PlatformParams) (s : State) : State :=
  { s with params := { s.params with platform := o } }

/-- Noninterference: a transaction commutes with replacing the OPEN parameters. Where it looks at the record, it looks at a row
the spec decides. -/
theorem exec_withPlatform {i : Instr} {s t : State} (o : PlatformParams) (h : exec i s = .next t) :
    exec i (s.withPlatform o) = .next (t.withPlatform o) := by
  cases i with
  | wrUartStatus _ | wrUartData _ | wrCanStatus _ | wrCanTxbuf _ | wrCanIrq _ | rdMpuGated _ | chk _ _ =>
    simp only [exec_wrUartStatus, exec_wrUartData, exec_wrCanStatus, exec_wrCanTxbuf, exec_wrCanIrq, exec_rdMpuGated,
      exec_chk] at h ⊢
    exact ite_next_map (State.withPlatform o) h
  | _ => cases h; rfl

/-- Settles O50, by `exec_withPlatform`. -/
theorem openParametersAreInvisible : Obligations.OpenParametersAreInvisible :=
  fun _ _ _ o h => completesAs_of_exec (exec_withPlatform o h)

/-! ### The transactions whose rules have variants -/

/-- Settles O16: `x` is what either mode stores. -/
theorem uartStatusWriteModes : Obligations.UartStatusWriteModes := by
  intro s v x hclear hverbatim
  have hx : storedUartStatus s.params.uartStatusWriteMode s.uart.status v = x := by
    cases hm : s.params.uartStatusWriteMode with
    | clear => exact (hclear hm).symm
    | verbatim => exact (hverbatim hm).symm
  constructor <;> intro hl <;> apply completesAs_of_exec <;> rw [exec_wrUartStatus, hx, hl] <;> rfl

/-- Settles O25: the mode decides on the value returned, and the register is only read. -/
theorem canStatusAndIrqReads : Obligations.CanStatusAndIrqReads := by
  intro s
  have hstatus : exec .rdCanStatus s =
      .next (s.answer (.data (canStatusData s.params.canStatusReadMode s.can.status))) := rfl
  refine ⟨fun hm => ?_, fun hm => ?_, completesAs_of_exec rfl⟩ <;> rw [hm] at hstatus <;>
    exact completesAs_of_exec hstatus

/-- Settles O27, by the two cases of `exec_wrCanStatus`. -/
theorem canMcrAndStatusWrites : Obligations.CanMcrAndStatusWrites := by
  intro s v
  refine ⟨completesAs_of_exec rfl, fun hl => ?_, fun hl => ?_⟩ <;> apply completesAs_of_exec <;>
    rw [exec_wrCanStatus, hl] <;> rfl

/-- Settles O29: the ignored write's only event is a log record. -/
theorem canIrqWriteModes : Obligations.CanIrqWriteModes := by
  intro s v
  constructor <;> intro hm
  · exact completesAs_of_exec ((exec_wrCanIrq v s).trans (if_pos hm))
  · exact ⟨_, (exec_wrCanIrq v s).trans (if_neg (by simp [hm])), ⟨rfl, rfl, rfl⟩, ⟨rfl, rfl, rfl⟩, rfl,
      observed_append_log ..⟩

end Sys2Proof.Machine
